-- ==== Sys2Proof/Word.lean ====
section
/-! DEFINITION. The word types: a byte (00_scope R9, R10) and a host register address (20_memory R50). -/

namespace Sys2Proof

/-- One byte: every frame byte, field and register (R9 `BYTE`). -/
abbrev Byte := BitVec 8

/-- A 9-bit byte address of the host register space (R50). -/
abbrev HostAddr := BitVec 9

end Sys2Proof
end

