-- ==== Sys2Proof/Config.lean ====
section
/-! DEFINITION. What is fixed for one machine: the closed set of commands, the inputs the agents can
make, the parameters of 00_scope R9, and the free values of 93_implementation_defined. -/

namespace Sys2Proof

/-- The seven commands, "a closed set of seven" (30_encoding R84, R89). -/
inductive Command where
  | init
  | getStatus
  | getPosition
  | stop
  | gotoPosition
  | setConfigData
  | getConfigMemory
  deriving DecidableEq, Repr, Inhabited

/-- The host's primitive operations (30_encoding R92): `WR a, v`, `RD a`, `WAITDONE`. -/
inductive HostOp where
  | wr (a : HostAddr) (v : Byte)
  | rd (a : HostAddr)
  | waitDone
  deriving DecidableEq, Repr, Inhabited

/-- One move of an agent (00_scope R8): each is one atomic step (R3, R65). -/
inductive Input where
  /-- The host issues a command by its mnemonic, named by its 7-byte request frame (R80, R93; log 1). -/
  | request (frame : List Byte)
  /-- The host performs one primitive (R92). -/
  | host (op : HostOp)
  /-- The transport takes the byte on `tx_data` (R134). -/
  | txAccept
  /-- The settle timer runs out (R137). -/
  | settleExpire
  /-- The transport delivers one received byte (R138). -/
  | rxByte (b : Byte)
  /-- The read timer runs out (R140). -/
  | readTimeout
  /-- The transport reports a failed write or read (R141). -/
  | tErr
  /-- The `link_ready` input takes a level (R36, R143). -/
  | linkReady (up : Bool)
  /-- Reset (R230). -/
  | reset
  deriving DecidableEq, Repr, Inhabited

namespace Config

/-! ### The parameters of 00_scope R9 that the source fixes -/

/-- `NUM_UNITS` (R9). -/
def numUnits : Nat := 3
/-- `REQ_LEN` (R9). -/
def reqLen : Nat := 7
/-- `RX_DEPTH`, the length of RESP (R9). -/
def rxDepth : Nat := 250
/-- `CFG_SIZE`, the device configuration memory (R9, R52). -/
def cfgSize : Nat := 248
/-- `CHUNK`, the bytes one SetConfigData carries (R9). -/
def chunk : Nat := 4
/-- `NUM_CHUNKS` (R9). -/
def numChunks : Nat := 62

/-! ### The parameters R9 leaves OPEN (93 U1 to U3): no value is fixed -/

/-- `SETTLE_DELAY(cmd)`, by the opcode latched at START (R9, R136, R210; U1). -/
opaque settleDelay : Byte → Nat
/-- `READ_TIMEOUT` (R9, R210; U2). -/
opaque readTimeout : Nat
/-- `INIT_STATUS_OFFSET(u)` (R9, R167; U3, log 20). -/
opaque initStatusOffset : Nat → Nat

/-! ### Free values: nothing constrains them -/

/-- RESP byte `i` after the `n`-th reset draw (R35, R42; U4, log 5). -/
opaque respDraw : Nat → Nat → Byte
/-- `tx_data` while `tx_valid` is 0, "unspecified otherwise" (R36; log 7). -/
opaque txIdle : Nat → Byte
/-- The next input of the environment where none is placed (R65, R205; U19, log 2). -/
opaque envInput : Nat → Input

end Config

end Sys2Proof
end

