-- ==== Sys2Proof/Machine/Codec.lean ====
section
/-! DEFINITION. The frame codec: pure functions of bytes (40_frame_codec), and the static command
table (30_encoding R82, R84) that the request builder and the response validator both use. -/

namespace Sys2Proof.Machine

/-! ### Checksum -/

/-- `~b`, the 8-bit complement (R112). -/
def not8 (b : Byte) : Byte := b ^^^ 0xFF#8

/-- `sum(s)`, the integer sum of the bytes (R11). -/
def byteSum (s : List Byte) : Nat := (s.map BitVec.toNat).sum

/-- `csum(s) = (sum(s) mod 256) XOR 0xFF` (R110). -/
def csum (s : List Byte) : Byte := BitVec.ofNat 8 (byteSum s % 256) ^^^ 0xFF#8

/-! ### The command table (R84) -/

/-- The wire opcode of a command (R84). -/
def opcodeOf : Command → Byte
  | .init => 0xAA#8
  | .getStatus => 0x33#8
  | .getPosition => 0x55#8
  | .stop => 0xC3#8
  | .gotoPosition => 0x0F#8
  | .setConfigData => 0x88#8
  | .getConfigMemory => 0x77#8

/-- The command of an opcode byte; the other 249 values name none (R84, R89). -/
def commandOf (op : Byte) : Option Command :=
  if op = 0xAA#8 then some .init
  else if op = 0x33#8 then some .getStatus
  else if op = 0x55#8 then some .getPosition
  else if op = 0xC3#8 then some .stop
  else if op = 0x0F#8 then some .gotoPosition
  else if op = 0x88#8 then some .setConfigData
  else if op = 0x77#8 then some .getConfigMemory
  else none

/-- `RESP_LEN(cmd)` (R9, R84). -/
def respLen : Command → Nat
  | .init => 4
  | .getStatus => 15
  | .getPosition => 20
  | .stop => 4
  | .gotoPosition => 6
  | .setConfigData => 4
  | .getConfigMemory => 250

/-! ### Request construction -/

/-- The nine argument registers (10_state R27). -/
structure ArgRegs where
  opcode : Byte
  unit : Byte
  posLo : Byte
  posHi : Byte
  addr : Byte
  data0 : Byte
  data1 : Byte
  data2 : Byte
  data3 : Byte
  deriving DecidableEq, Repr

/-- Every argument register at its reset value 0x00 (10_state R42). -/
def ArgRegs.zero : ArgRegs := ⟨0, 0, 0, 0, 0, 0, 0, 0, 0⟩

/-- `fields(op, regs)`: the five field bytes of a command (R82, R83, R114). -/
def fields (c : Command) (r : ArgRegs) : Vector Byte 5 :=
  match c with
  | .init => #v[r.unit, 0x55#8, not8 r.unit, 0x55#8, not8 r.unit]
  | .stop => #v[r.unit, 0x3C#8, not8 r.unit, 0x3C#8, not8 r.unit]
  | .gotoPosition => #v[r.unit, r.posLo, r.posHi, 0xF0#8, not8 r.unit]
  | .setConfigData => #v[r.addr, r.data0, r.data1, r.data2, r.data3]
  | .getStatus => #v[0, 0, 0, 0, 0]
  | .getPosition => #v[0, 0, 0, 0, 0]
  | .getConfigMemory => #v[0, 0, 0, 0, 0]

/-- `build_request(op, [f0, .., f4])`: opcode, fields, checksum (R80, R113). -/
def buildRequest (op : Byte) (f : Vector Byte 5) : Vector Byte 7 :=
  #v[op, f[0], f[1], f[2], f[3], f[4], csum [op, f[0], f[1], f[2], f[3], f[4]]]

/-- `build_request(OPCODE, fields(OPCODE, argument registers))`, the frame START builds (R132). -/
def requestOf (c : Command) (r : ArgRegs) : Vector Byte 7 := buildRequest r.opcode (fields c r)

/-! ### Response validation -/

/-- What `validate_response` answers (R116): the validated frame, or an error with the `info` it carries. -/
inductive Validation where
  | ok (frame : List Byte)
  | lengthMismatch (got : Nat)
  | checksumMismatch (got : Byte)
  | opcodeMismatch (got : Byte)
  deriving DecidableEq, Repr

/-- `validate_response(op, raw, n)` (R116): length, then checksum, then opcode. `none` for `n = 0`,
which is outside its domain (R120, U15). After the length check `raw` has `n >= 1` bytes, so the
two defaults of `getD` are never used. -/
def validateResponse (op : Byte) (raw : List Byte) (n : Nat) : Option Validation :=
  if n = 0 then none
  else if raw.length ≠ n then some (.lengthMismatch raw.length)
  else if csum (raw.take (n - 1)) ≠ raw.getD (n - 1) 0 then
    some (.checksumMismatch (raw.getD (n - 1) 0))
  else if raw.getD 0 0 ≠ op then some (.opcodeMismatch (raw.getD 0 0))
  else some (.ok raw)

end Sys2Proof.Machine
end

