-- ==== Sys2Proof/Syntax.lean ====
section
/-! DEFINITION. The instructions: one constructor per row of spec/opcode_table.json. -/

namespace Sys2Proof

/-- The seven command mnemonics of 30_encoding R93 with their operands. Bytes that go to registers and
on the wire unchanged are bytes; the GotoPosition target is the integer the rules split with
`mod 256` and `div 256` (R55, R82, R163), its range checked in WellFormed. -/
inductive Instr where
  /-- `INIT u` (Init, 0xAA, R161). -/
  | init (u : Byte)
  /-- `GSTAT` (GetStatus, 0x33, R165). -/
  | gstat
  /-- `GPOS` (GetPosition, 0x55, R168). -/
  | gpos
  /-- `STOP u` (Stop, 0xC3, R162). -/
  | stop (u : Byte)
  /-- `GOTO u, pos` (GotoPosition, 0x0F, R163). -/
  | goto (u : Byte) (pos : Nat)
  /-- `SETCFG a, d0, d1, d2, d3` (SetConfigData, 0x88, R180). -/
  | setcfg (a d0 d1 d2 d3 : Byte)
  /-- `GETCFG` (GetConfigMemory, 0x77, R183). -/
  | getcfg
  deriving DecidableEq, Repr

end Sys2Proof
end

