-- ==== Sys2Proof/WellFormed.lean ====
section
/-! DEFINITION. Which instruction terms are instructions: the operand ranges of 30_encoding R93. -/

namespace Sys2Proof

/-- Operand ranges (R93): `u`, `a`, `d0` to `d3` are bytes by their type; `pos` is in [0, 65535]. -/
def Instr.wellFormed : Instr → Bool
  | .init _ => true
  | .gstat => true
  | .gpos => true
  | .stop _ => true
  | .goto _ pos => decide (pos < 65536)
  | .setcfg _ _ _ _ _ => true
  | .getcfg => true

/-- `i` is an instruction the assembler admits (R93). -/
abbrev Instr.WellFormed (i : Instr) : Prop := i.wellFormed = true

end Sys2Proof
end

