-- ==== Sys2Proof/Decode.lean ====
section
/-! DEFINITION. Decoding a request frame from its bytes (30_encoding R85), total and rejecting by name,
the encoder (R80 to R83), and the reading of a word of spec/opcode_table.json (R81). -/

namespace Sys2Proof

open Machine

/-- Why a byte sequence is no well-formed request (R85). -/
inductive Reject where
  /-- Not exactly 7 bytes (R80). -/
  | badLength
  /-- Byte 0 is none of the seven opcodes (R84, R89). -/
  | unknownOpcode
  /-- A byte that R82 fixes for this command has another value. -/
  | badFixedByte
  /-- A complement byte is not the complement of byte 1. -/
  | badComplement
  /-- Byte 6 is not `csum(frame[0:6])`. -/
  | badChecksum
  deriving DecidableEq, Repr

/-! ### Encoder -/

/-- The command an instruction names (R93). -/
def Instr.command : Instr → Command
  | .init _ => .init
  | .gstat => .getStatus
  | .gpos => .getPosition
  | .stop _ => .stop
  | .goto _ _ => .gotoPosition
  | .setcfg _ _ _ _ _ => .setConfigData
  | .getcfg => .getConfigMemory

/-- The argument registers as an instruction's operands fill them (R93); the registers its expansion
does not name are 0x00 here, and its frame does not depend on them (R83). -/
def Instr.args : Instr → ArgRegs
  | .init u => { ArgRegs.zero with opcode := 0xAA#8, unit := u }
  | .gstat => { ArgRegs.zero with opcode := 0x33#8 }
  | .gpos => { ArgRegs.zero with opcode := 0x55#8 }
  | .stop u => { ArgRegs.zero with opcode := 0xC3#8, unit := u }
  | .goto u pos =>
    { ArgRegs.zero with
      opcode := 0x0F#8, unit := u
      posLo := BitVec.ofNat 8 (pos % 256), posHi := BitVec.ofNat 8 (pos / 256) }
  | .setcfg a d0 d1 d2 d3 =>
    { ArgRegs.zero with opcode := 0x88#8, addr := a, data0 := d0, data1 := d1, data2 := d2, data3 := d3 }
  | .getcfg => { ArgRegs.zero with opcode := 0x77#8 }

/-- The 7-byte request frame of an instruction, first wire byte first (R80, R82). -/
def encode (i : Instr) : List Byte := (requestOf i.command i.args).toList

/-! ### Decoder -/

/-- The operands of command `c` in the five field bytes, with the fixed and the complement bytes
checked (R82, R85). -/
def readFields (c : Command) (b1 b2 b3 b4 b5 : Byte) : Except Reject Instr :=
  match c with
  | .init =>
    if b2 ≠ 0x55#8 ∨ b4 ≠ 0x55#8 then .error .badFixedByte
    else if b3 ≠ not8 b1 ∨ b5 ≠ not8 b1 then .error .badComplement
    else .ok (.init b1)
  | .stop =>
    if b2 ≠ 0x3C#8 ∨ b4 ≠ 0x3C#8 then .error .badFixedByte
    else if b3 ≠ not8 b1 ∨ b5 ≠ not8 b1 then .error .badComplement
    else .ok (.stop b1)
  | .gotoPosition =>
    if b4 ≠ 0xF0#8 then .error .badFixedByte
    else if b5 ≠ not8 b1 then .error .badComplement
    else .ok (.goto b1 (b2.toNat + 256 * b3.toNat))
  | .setConfigData => .ok (.setcfg b1 b2 b3 b4 b5)
  | .getStatus =>
    if b1 ≠ 0 ∨ b2 ≠ 0 ∨ b3 ≠ 0 ∨ b4 ≠ 0 ∨ b5 ≠ 0 then .error .badFixedByte else .ok .gstat
  | .getPosition =>
    if b1 ≠ 0 ∨ b2 ≠ 0 ∨ b3 ≠ 0 ∨ b4 ≠ 0 ∨ b5 ≠ 0 then .error .badFixedByte else .ok .gpos
  | .getConfigMemory =>
    if b1 ≠ 0 ∨ b2 ≠ 0 ∨ b3 ≠ 0 ∨ b4 ≠ 0 ∨ b5 ≠ 0 then .error .badFixedByte else .ok .getcfg

/-- The instruction a 7-byte frame encodes: byte 0 alone selects the command, and the frame is a
well-formed request exactly when its fixed bytes match R82 and byte 6 is the checksum (R85). -/
def decode (frame : List Byte) : Except Reject Instr :=
  match frame with
  | [b0, b1, b2, b3, b4, b5, b6] =>
    match commandOf b0 with
    | none => .error .unknownOpcode
    | some c =>
      match readFields c b1 b2 b3 b4 b5 with
      | .error e => .error e
      | .ok i => if b6 = csum [b0, b1, b2, b3, b4, b5] then .ok i else .error .badChecksum
  | _ => .error .badLength

/-! ### Words of spec/opcode_table.json -/

/-- Byte `k` of a 56-bit table number: bits `[55 - 8k : 48 - 8k]` (R81). -/
def wordByte (w k : Nat) : Byte := BitVec.ofNat 8 (w >>> (48 - 8 * k))

/-- One row of spec/opcode_table.json: its mask and match numbers, and where its operands stand. -/
structure TableRow where
  mnemonic : String
  mask : Nat
  value : Nat
  read : Nat → Instr

/-- The seven rows of spec/opcode_table.json, in its order. -/
def tableRows : List TableRow :=
  [ ⟨"INIT", 0xFF00FF00FF0000, 0xAA005500550000, fun w => .init (wordByte w 1)⟩,
    ⟨"GSTAT", 0xFFFFFFFFFFFFFF, 0x330000000000CC, fun _ => .gstat⟩,
    ⟨"GPOS", 0xFFFFFFFFFFFFFF, 0x550000000000AA, fun _ => .gpos⟩,
    ⟨"STOP", 0xFF00FF00FF0000, 0xC3003C003C0000, fun w => .stop (wordByte w 1)⟩,
    ⟨"GOTO", 0xFF000000FF0000, 0x0F000000F00000,
      fun w => .goto (wordByte w 1) ((wordByte w 2).toNat + 256 * (wordByte w 3).toNat)⟩,
    ⟨"SETCFG", 0xFF000000000000, 0x88000000000000,
      fun w => .setcfg (wordByte w 1) (wordByte w 2) (wordByte w 3) (wordByte w 4) (wordByte w 5)⟩,
    ⟨"GETCFG", 0xFFFFFFFFFFFFFF, 0x77000000000088, fun _ => .getcfg⟩ ]

/-- A table word of `nbits` bits as a 56-bit number, its first byte most significant (R81). -/
def tableWord (nbits w : Nat) : Nat := (w % 2 ^ nbits) <<< (56 - nbits)

/-- The frame a table word stands for (log 9). The table's mask and match fix only the constant
bytes; the complement bytes and the checksum are functions of the others (the table's note), so a
word that matches a row is completed to that row's request frame. A word that matches no row is laid
out as it is. -/
def tableFrame (nbits w : Nat) : List Byte :=
  let n := tableWord nbits w
  match tableRows.find? (fun r => n &&& r.mask == r.value) with
  | some r => encode (r.read n)
  | none => (List.range 7).map (wordByte n)

/-- The instruction the decoder reads from a word numbered as spec/opcode_table.json numbers it. -/
def decodeTableWord (nbits w : Nat) : Option Instr := (decode (tableFrame nbits w)).toOption

end Sys2Proof
end

