-- ==== Sys2Proof/Machine/State.lean ====
section
/-! DEFINITION. The machine's state (10_state R20 to R42), the reasons a step can stop, and reset. -/

namespace Sys2Proof.Machine

/-- Where the command stands (10_state R37). -/
inductive Phase where
  | idle
  | tx
  | settle
  | read
  deriving DecidableEq, Repr

/-- The result codes of 60_exceptions R200; the reserved codes 0x9 to 0xF are never written. -/
inductive ResultCode where
  | ok
  | transportError
  | lengthMismatch
  | checksumMismatch
  | opcodeMismatch
  | addressMismatch
  | unitMismatch
  | deviceNack
  | illegalCommand
  deriving DecidableEq, Repr

/-- A timer of 60_exceptions R210: stopped, or running with the length it was started with. -/
inductive Timer where
  | stopped
  | running (length : Nat)
  deriving DecidableEq, Repr

/-- What the host's last turn of `WAITDONE` found: DONE = 1, or DONE = 0 and it polls on (30_encoding R92;
log 4). The block answers every host access in either case (41_dispatcher R144, 60_exceptions R209). -/
inductive HostMode where
  | ready
  | waiting
  deriving DecidableEq, Repr

/-- The whole state: the block's (R20), then the model's own fields. -/
structure State where
  /-- The argument registers OPCODE to DATA3 (R22 to R27). -/
  args : ArgRegs
  /-- STATUS.DONE (R29). -/
  done : Bool
  /-- The level of `link_ready`, read as STATUS.LINK (R29, R36). -/
  link : Bool
  /-- RESULT (R30). -/
  result : ResultCode
  /-- ACK (R31). -/
  ack : Byte
  /-- TXF0 to TXF6 (R34). -/
  txf : Vector Byte 7
  /-- RESP0 to RESP249 (R35). -/
  resp : Vector Byte 250
  /-- `phase` (R37). -/
  phase : Phase
  /-- `cur_op` (R37). -/
  curOp : Byte
  /-- `cur_unit` (R37). -/
  curUnit : Byte
  /-- `cur_addr` (R37). -/
  curAddr : Byte
  /-- `exp_len`, read as EXP_LEN (R33, R37). -/
  expLen : Nat
  /-- `tx_idx` (R37). -/
  txIdx : Nat
  /-- `rx_count`, read as RESP_LEN (R32, R37). -/
  rxCount : Nat
  /-- The settle timer (R37, R210). -/
  settleTimer : Timer
  /-- The read timer (R37, R210). -/
  readTimer : Timer
  /-- Own field: the inputs still to come, in the order in which they happen (R65; log 2). -/
  inbox : List Input
  /-- Own field: which free value is taken next (log 17). -/
  draws : Nat
  /-- Own field: what the host's last turn of `WAITDONE` found (R92; log 4). -/
  host : HostMode
  /-- Own field: the byte the last host read returned (R50; log 10). -/
  rdata : Byte
  /-- Own field: the request bytes the transport has taken, first one first (R53; log 11). -/
  sent : List Byte
  deriving DecidableEq, Repr

/-- The machine stops with a fault. The block itself has none (R51, R206); each of these is an
internal value outside the range R37 gives it, in a state no run reaches (log 12). -/
inductive Fault where
  /-- `tx_accept` in phase TX with `tx_idx >= 7`: TXF has no such byte. Raised by `txAccept`; safe. -/
  | txIndexRange
  /-- A capture with `rx_count >= 250`: RESP has no such byte. Raised by `rxByte`; safe. -/
  | rxIndexRange
  /-- A check in flight with a `cur_op` that names no command. Raised by `finish`; safe. -/
  | noCommand
  deriving DecidableEq, Repr

/-- The step has no meaning. -/
inductive Refusal where
  /-- The instruction has no meaning yet. Raised by a refused arm of `exec`; safe. -/
  | notModelled (mnemonic : String)
  /-- The input is not enabled in this state (R146, last sentence), so it cannot happen. Raised by
  `txAccept`, `settleExpire` and `readTimeout`; safe (log 3). -/
  | notEnabled
  /-- The frame is no well-formed request (R85). Raised by `takeInput`; safe. -/
  | malformedRequest (why : Reject)
  /-- `validate_response` with expected length 0, "must be refused" (R120, U15). Raised by `finish`; safe. -/
  | emptyValidation
  deriving DecidableEq, Repr

/-- RESP as the `n`-th reset leaves it: a free value per byte (R35, R42; U4, log 5). -/
def drawResp (n : Nat) : Vector Byte 250 := Vector.ofFn fun i => Config.respDraw n i

/-- The machine right after reset (10_state R42). The level of `link_ready` and the model's own
fields have values the log names (log 2, 4, 6, 10, 11, 17). -/
def State.reset : State where
  args := ArgRegs.zero
  done := false
  link := true
  result := .ok
  ack := 0
  txf := Vector.replicate 7 0
  resp := drawResp 0
  phase := .idle
  curOp := 0
  curUnit := 0
  curAddr := 0
  expLen := 0
  txIdx := 0
  rxCount := 0
  settleTimer := .stopped
  readTimer := .stopped
  inbox := []
  draws := 1
  host := .ready
  rdata := 0
  sent := []

end Sys2Proof.Machine
end

