-- ==== Sys2Proof/Machine/Operands.lean ====
section
/-! DEFINITION. The operand forms of the host's operations: the register map of 10_state R21, the
argument registers (R22 to R27), and the named addresses the mnemonics of 30_encoding R93 use. -/

namespace Sys2Proof.Machine

/-- What an address of the host register space names (R21). -/
inductive HostReg where
  | opcode
  | unit
  | posLo
  | posHi
  | addr
  | data0
  | data1
  | data2
  | data3
  | ctrl
  | status
  | result
  | ack
  | respLen
  | expLen
  | txf (i : Fin 7)
  | resp (i : Fin 250)
  | reserved
  deriving DecidableEq, Repr

/-- The addresses above EXP_LEN: the two frame buffers and the reserved ranges (R21). -/
def bufferAt (n : Nat) : HostReg :=
  if h : 0x010 ≤ n ∧ n ≤ 0x016 then .txf ⟨n - 0x010, by omega⟩
  else if h : 0x100 ≤ n ∧ n ≤ 0x1F9 then .resp ⟨n - 0x100, by omega⟩
  else .reserved

/-- The register map (R21). -/
def regAt (a : HostAddr) : HostReg :=
  match a.toNat with
  | 0x000 => .opcode
  | 0x001 => .unit
  | 0x002 => .posLo
  | 0x003 => .posHi
  | 0x004 => .addr
  | 0x005 => .data0
  | 0x006 => .data1
  | 0x007 => .data2
  | 0x008 => .data3
  | 0x009 => .ctrl
  | 0x00A => .status
  | 0x00B => .result
  | 0x00C => .ack
  | 0x00D => .respLen
  | 0x00E => .expLen
  | n => bufferAt n

/-! ### Named addresses (R21) -/

/-- OPCODE. -/
def aOPCODE : HostAddr := 0x000#9
/-- UNIT. -/
def aUNIT : HostAddr := 0x001#9
/-- POS_LO. -/
def aPOS_LO : HostAddr := 0x002#9
/-- POS_HI. -/
def aPOS_HI : HostAddr := 0x003#9
/-- ADDR. -/
def aADDR : HostAddr := 0x004#9
/-- DATA0. -/
def aDATA0 : HostAddr := 0x005#9
/-- DATA1. -/
def aDATA1 : HostAddr := 0x006#9
/-- DATA2. -/
def aDATA2 : HostAddr := 0x007#9
/-- DATA3. -/
def aDATA3 : HostAddr := 0x008#9
/-- CTRL. -/
def aCTRL : HostAddr := 0x009#9
/-- STATUS. -/
def aSTATUS : HostAddr := 0x00A#9
/-- RESULT. -/
def aRESULT : HostAddr := 0x00B#9
/-- ACK. -/
def aACK : HostAddr := 0x00C#9
/-- RESP_LEN. -/
def aRESP_LEN : HostAddr := 0x00D#9
/-- EXP_LEN. -/
def aEXP_LEN : HostAddr := 0x00E#9

/-! ### Operands -/

/-- `pos = POS_LO + 256 * POS_HI`, the GotoPosition target (R24). -/
def ArgRegs.pos (r : ArgRegs) : Nat := r.posLo.toNat + 256 * r.posHi.toNat

/-- `pos mod 256`, the value written to POS_LO (R93). -/
def posLowByte (pos : Nat) : Byte := BitVec.ofNat 8 (pos % 256)

/-- `pos div 256`, the value written to POS_HI (R93); a byte for every `pos` in [0, 65535] (log 16). -/
def posHighByte (pos : Nat) : Byte := BitVec.ofNat 8 (pos / 256)

/-- The bit of a CTRL write that requests a start, bit 0; bits 7:1 are ignored (R28). -/
def startBit (v : Byte) : Bool := v.getLsbD 0

end Sys2Proof.Machine
end

