-- ==== Sys2Proof/Machine/Flags.lean ====
section
/-! DEFINITION. The block's flags and codes: STATUS (10_state R29), RESULT (R30, 60_exceptions R200),
and the transport port's outputs `tx_valid` and `tx_data` (R36). -/

namespace Sys2Proof.Machine

/-- STATUS.BUSY: 1 exactly while `phase != IDLE` (R29). -/
def State.busy (s : State) : Bool := decide (s.phase ≠ .idle)

/-- The STATUS byte: bit 0 BUSY, bit 1 DONE, bit 2 LINK, bits 7:3 read 0 (R29). -/
def statusByte (s : State) : Byte :=
  BitVec.ofNat 8 (s.busy.toNat + 2 * s.done.toNat + 4 * s.link.toNat)

/-- Bit 1 of a STATUS value, DONE: what `WAITDONE` tests (R92). -/
def doneBit (v : Byte) : Bool := v.getLsbD 1

/-- The number of a result code (R200); bits 7:4 are 0 (R30). -/
def ResultCode.code : ResultCode → Byte
  | .ok => 0x0#8
  | .transportError => 0x1#8
  | .lengthMismatch => 0x2#8
  | .checksumMismatch => 0x3#8
  | .opcodeMismatch => 0x4#8
  | .addressMismatch => 0x5#8
  | .unitMismatch => 0x6#8
  | .deviceNack => 0x7#8
  | .illegalCommand => 0x8#8

/-- `tx_valid`: 1 exactly while `phase = TX` (R36). -/
def txValid (s : State) : Bool := decide (s.phase = .tx)

/-- `tx_data`: `TXF[tx_idx]` while `tx_valid = 1`, unspecified otherwise (R36; log 7). -/
def txData (s : State) : Byte :=
  if h : s.phase = .tx ∧ s.txIdx < 7 then s.txf[s.txIdx]'h.2 else Config.txIdle s.draws

/-- What a host reads from a register (R21, R28 to R35, R51). -/
def readReg (r : HostReg) (s : State) : Byte :=
  match r with
  | .opcode => s.args.opcode
  | .unit => s.args.unit
  | .posLo => s.args.posLo
  | .posHi => s.args.posHi
  | .addr => s.args.addr
  | .data0 => s.args.data0
  | .data1 => s.args.data1
  | .data2 => s.args.data2
  | .data3 => s.args.data3
  | .ctrl => 0
  | .status => statusByte s
  | .result => s.result.code
  | .ack => s.ack
  | .respLen => BitVec.ofNat 8 s.rxCount
  | .expLen => BitVec.ofNat 8 s.expLen
  | .txf i => s.txf[i]
  | .resp i => s.resp[i]
  | .reserved => 0

/-- `HostRead(a)` (20_memory R50, R51). -/
def readAt (a : HostAddr) (s : State) : Byte := readReg (regAt a) s

end Sys2Proof.Machine
end

