-- ==== Sys2Proof/Machine/Ops.lean ====
section
/-! DEFINITION. The named operations over the state: completing a command (the block's one way of
taking an error, 41_dispatcher R142, 60_exceptions R206), the frame latch of START, the capture of a
received byte, the reset event, and taking the next input. -/

namespace Sys2Proof.Machine

/-- `complete(code)` (R142): RESULT, DONE, phase IDLE, both timers stopped. It changes nothing else;
there is no return beside it (R207). -/
def complete (code : ResultCode) (s : State) : State :=
  { s with
    result := code
    done := true
    phase := .idle
    settleTimer := .stopped
    readTimer := .stopped }

/-- The argument registers take new values (R27). -/
def setArgs (r : ArgRegs) (s : State) : State := { s with args := r }

/-- What every START of a legal opcode writes, sent or not (R132, R133). -/
def latchCommand (c : Command) (s : State) : State :=
  { s with
    curOp := s.args.opcode
    curUnit := s.args.unit
    curAddr := s.args.addr
    txf := requestOf c s.args
    expLen := respLen c
    txIdx := 0
    rxCount := 0
    ack := 0 }

/-- `RESP[0 : rx_count]`, the bytes captured (R120, R137, R140). -/
def captured (s : State) : List Byte := s.resp.toList.take s.rxCount

/-- The capture window (R40): phase SETTLE or READ with room left. -/
def captures (s : State) : Bool :=
  decide ((s.phase = .settle ∨ s.phase = .read) ∧ s.rxCount < s.expLen)

/-- `RESP[rx_count] <- b; rx_count <- rx_count + 1` (R138). -/
def storeByte (b : Byte) (s : State) (h : s.rxCount < 250) : State :=
  { s with resp := s.resp.set s.rxCount b h, rxCount := s.rxCount + 1 }

/-- The reset event (70_reset R230): every piece of the block's state to its value of R42, RESP to a
fresh draw. The `link_ready` level is the transport's (R231), and the model's own fields are outside
the block (log 15). -/
def resetBlock (s : State) : State :=
  { State.reset with
    link := s.link
    resp := drawResp s.draws
    inbox := s.inbox
    draws := s.draws + 1
    host := s.host
    rdata := s.rdata
    sent := s.sent }

/-- The next input and the state it is taken in: the head of the inbox, or, where none is placed, a
free value of the environment (R65, R205; log 2). -/
def nextInput (s : State) : Input × State :=
  match s.inbox with
  | i :: rest => (i, { s with inbox := rest })
  | [] => (Config.envInput s.draws, { s with draws := s.draws + 1 })

end Sys2Proof.Machine
end

