-- ==== Sys2Proof/Machine/Check.lean ====
section
/-! DEFINITION. `check(op, raw)` of 41_dispatcher R142: the frame checks, then the command's own, in
the order of 60_exceptions R204. -/

namespace Sys2Proof.Machine

/-- `extra(0x0F, raw)`: the unit echo, response byte 1, against the unit latched at START (R163, D10). -/
def extraGotoPosition (raw : List Byte) (s : State) : ResultCode × Byte :=
  if raw.getD 1 0 ≠ s.curUnit then (.unitMismatch, s.ack) else (.ok, s.ack)

/-- `extra(0x88, raw)`: the address echo, then the ack byte (R181). ACK is written only when the
address matches. -/
def extraSetConfigData (raw : List Byte) (s : State) : ResultCode × Byte :=
  if raw.getD 1 0 ≠ s.curAddr then (.addressMismatch, s.ack)
  else if raw.getD 2 0 = 0 then (.ok, raw.getD 2 0)
  else (.deviceNack, raw.getD 2 0)

/-- `extra(op, raw)` (R142, R160): the code and the new value of ACK. -/
def extra (c : Command) (raw : List Byte) (s : State) : ResultCode × Byte :=
  match c with
  | .init => (.ok, s.ack)
  | .getStatus => (.ok, s.ack)
  | .getPosition => (.ok, s.ack)
  | .stop => (.ok, s.ack)
  | .gotoPosition => extraGotoPosition raw s
  | .setConfigData => extraSetConfigData raw s
  | .getConfigMemory => (.ok, s.ack)

/-- `complete(check(cur_op, raw))` (R142). -/
def finish (raw : List Byte) (s : State) : Host.Outcome State Fault Refusal :=
  match validateResponse s.curOp raw s.expLen with
  | none => .refused .emptyValidation
  | some (.lengthMismatch _) => .next (complete .lengthMismatch s)
  | some (.checksumMismatch _) => .next (complete .checksumMismatch s)
  | some (.opcodeMismatch _) => .next (complete .opcodeMismatch s)
  | some (.ok raw) =>
    match commandOf s.curOp with
    | none => .fault .noCommand
    | some c => .next (complete (extra c raw s).1 { s with ack := (extra c raw s).2 })

end Sys2Proof.Machine
end

