-- ==== Sys2Proof/Machine/Dispatcher.lean ====
section
/-! DEFINITION. The dispatcher's events, one definition per rule of 41_dispatcher. -/

namespace Sys2Proof.Machine

/-! ### START -/

/-- `illegal_start()` (R131). -/
def illegalStart (s : State) : State :=
  { s with
    result := .illegalCommand
    ack := 0
    rxCount := 0
    expLen := 0
    done := true }

/-- `accept_start()` (R132). -/
def acceptStart (c : Command) (s : State) : State :=
  { latchCommand c s with
    result := .ok
    done := false
    phase := .tx }

/-- `link_down_start()` (R133): built, not sent, completed at once. -/
def linkDownStart (c : Command) (s : State) : State :=
  { latchCommand c s with
    result := .transportError
    done := true }

/-- The START request (R130); while busy it is lost. -/
def start (s : State) : State :=
  if s.phase ≠ .idle then s
  else
    match commandOf s.args.opcode with
    | none => illegalStart s
    | some c => if s.link then acceptStart c s else linkDownStart c s

/-! ### Transport and timer events -/

/-- `tx_accept` (R134): enabled only in phase TX; the byte on `tx_data` goes out. -/
def txAccept (s : State) : Host.Outcome State Fault Refusal :=
  if s.phase = .tx then
    if h : s.txIdx < 7 then
      if s.txIdx = 6 then
        .next { s with
          sent := s.sent ++ [s.txf[s.txIdx]]
          txIdx := 7
          phase := .settle
          settleTimer := .running (Config.settleDelay s.curOp) }
      else
        .next { s with sent := s.sent ++ [s.txf[s.txIdx]], txIdx := s.txIdx + 1 }
    else .fault .txIndexRange
  else .refused .notEnabled

/-- `settle_expire` (R137): enabled only in phase SETTLE. -/
def settleExpire (s : State) : Host.Outcome State Fault Refusal :=
  if s.phase = .settle then
    if s.rxCount = s.expLen then finish (captured s) s
    else
      .next { s with
        phase := .read
        settleTimer := .stopped
        readTimer := .running Config.readTimeout }
  else .refused .notEnabled

/-- `rx_byte(b)` (R138, R139): captured in the capture window, discarded elsewhere. -/
def rxByte (b : Byte) (s : State) : Host.Outcome State Fault Refusal :=
  if captures s then
    if h : s.rxCount < 250 then
      if s.phase = .read ∧ s.rxCount + 1 = s.expLen then
        finish (captured s ++ [b]) (storeByte b s h)
      else .next (storeByte b s h)
    else .fault .rxIndexRange
  else .next s

/-- `read_timeout` (R140): enabled only in phase READ with room left. -/
def readTimeout (s : State) : Host.Outcome State Fault Refusal :=
  if s.phase = .read ∧ s.rxCount < s.expLen then finish (captured s) s
  else .refused .notEnabled

/-- `t_err` (R141): fails the command in flight; no effect in phase IDLE. -/
def tErr (s : State) : State :=
  if s.phase = .idle then s else complete .transportError s

/-- The `link_ready` level changes; nothing else does (R36, R143). -/
def linkReady (up : Bool) (s : State) : State := { s with link := up }

end Sys2Proof.Machine
end

