-- ==== Sys2Proof/Machine/HostPort.lean ====
section
/-! DEFINITION. The host's operations on the register space (20_memory R50, R51; 30_encoding R92), and
the issue of a command mnemonic as its expansion (R93). -/

namespace Sys2Proof.Machine

/-- A host write to a register (R51): argument registers store all 8 bits, CTRL with bit 0 = 1 is a
START (R28), every read-only register and reserved address ignores it. -/
def writeReg (r : HostReg) (v : Byte) (s : State) : State :=
  match r with
  | .opcode => setArgs { s.args with opcode := v } s
  | .unit => setArgs { s.args with unit := v } s
  | .posLo => setArgs { s.args with posLo := v } s
  | .posHi => setArgs { s.args with posHi := v } s
  | .addr => setArgs { s.args with addr := v } s
  | .data0 => setArgs { s.args with data0 := v } s
  | .data1 => setArgs { s.args with data1 := v } s
  | .data2 => setArgs { s.args with data2 := v } s
  | .data3 => setArgs { s.args with data3 := v } s
  | .ctrl => if startBit v then start s else s
  | .status => s
  | .result => s
  | .ack => s
  | .respLen => s
  | .expLen => s
  | .txf _ => s
  | .resp _ => s
  | .reserved => s

/-- `HostWrite(a, v)` (R50, R51). -/
def hostWrite (a : HostAddr) (v : Byte) (s : State) : State := writeReg (regAt a) v s

/-- `HostRead(a)` (R50, R51): no side effect on the block; the byte goes to the host. -/
def hostRead (a : HostAddr) (s : State) : State := { s with rdata := readAt a s }

/-- One turn of `WAITDONE`: `RD STATUS`, ended when bit 1 (DONE) of the value read is 1 and to be repeated
otherwise (R92). -/
def waitDone (s : State) : State :=
  { hostRead aSTATUS s with host := if doneBit (statusByte s) then .ready else .waiting }

/-- One host primitive (R92). -/
def runHostOp (op : HostOp) (s : State) : State :=
  match op with
  | .wr a v => hostWrite a v s
  | .rd a => hostRead a s
  | .waitDone => waitDone s

/-- Host primitives one after the other, with no other agent between them (log 1). -/
def runHostOps (ops : List HostOp) (s : State) : State :=
  ops.foldl (fun s op => runHostOp op s) s

end Sys2Proof.Machine
end

