-- ==== Sys2Proof/Machine/ConfigMemory.lean ====
section
/-! DEFINITION. The configuration-memory commands (43_config_commands): each mnemonic's expansion
(30_encoding R93) run as one step. -/

namespace Sys2Proof.Machine

/-- `SETCFG a, d0, d1, d2, d3` (R180): `WR OPCODE, 0x88; WR ADDR, a; WR DATA0, d0; WR DATA1, d1;
WR DATA2, d2; WR DATA3, d3; WR CTRL, 1; WAITDONE`. -/
def execSetcfg (a d0 d1 d2 d3 : Byte) (s : State) : Host.Outcome State Fault Refusal :=
  .next (runHostOps
    [.wr aOPCODE 0x88#8, .wr aADDR a, .wr aDATA0 d0, .wr aDATA1 d1, .wr aDATA2 d2, .wr aDATA3 d3,
      .wr aCTRL 1#8, .waitDone] s)

/-- `GETCFG` (R183): `WR OPCODE, 0x77; WR CTRL, 1; WAITDONE`. -/
def execGetcfg (s : State) : Host.Outcome State Fault Refusal :=
  .next (runHostOps [.wr aOPCODE 0x77#8, .wr aCTRL 1#8, .waitDone] s)

end Sys2Proof.Machine
end

