-- ==== Sys2Proof/Machine/Motion.lean ====
section
/-! DEFINITION. The motion and status commands (42_motion_status_commands): each mnemonic's expansion
(30_encoding R93) run as one step. What START builds is the rule's own frame (R161 to R168); the
command's later events and checks are Dispatcher and Check. -/

namespace Sys2Proof.Machine

/-- `INIT u` (R161): `WR OPCODE, 0xAA; WR UNIT, u; WR CTRL, 1; WAITDONE`. -/
def execInit (u : Byte) (s : State) : Host.Outcome State Fault Refusal :=
  .next (runHostOps [.wr aOPCODE 0xAA#8, .wr aUNIT u, .wr aCTRL 1#8, .waitDone] s)

/-- `STOP u` (R162): `WR OPCODE, 0xC3; WR UNIT, u; WR CTRL, 1; WAITDONE`. -/
def execStop (u : Byte) (s : State) : Host.Outcome State Fault Refusal :=
  .next (runHostOps [.wr aOPCODE 0xC3#8, .wr aUNIT u, .wr aCTRL 1#8, .waitDone] s)

/-- `GOTO u, pos` (R163): `WR OPCODE, 0x0F; WR UNIT, u; WR POS_LO, pos mod 256;
WR POS_HI, pos div 256; WR CTRL, 1; WAITDONE`. -/
def execGoto (u : Byte) (pos : Nat) (s : State) : Host.Outcome State Fault Refusal :=
  .next (runHostOps
    [.wr aOPCODE 0x0F#8, .wr aUNIT u, .wr aPOS_LO (posLowByte pos), .wr aPOS_HI (posHighByte pos),
      .wr aCTRL 1#8, .waitDone] s)

/-- `GSTAT` (R165): `WR OPCODE, 0x33; WR CTRL, 1; WAITDONE`. -/
def execGstat (s : State) : Host.Outcome State Fault Refusal :=
  .next (runHostOps [.wr aOPCODE 0x33#8, .wr aCTRL 1#8, .waitDone] s)

/-- `GPOS` (R168): `WR OPCODE, 0x55; WR CTRL, 1; WAITDONE`. -/
def execGpos (s : State) : Host.Outcome State Fault Refusal :=
  .next (runHostOps [.wr aOPCODE 0x55#8, .wr aCTRL 1#8, .waitDone] s)

end Sys2Proof.Machine
end

