-- ==== Sys2Proof/Machine/Dispatch.lean ====
section
/-! DEFINITION. One arm per instruction. -/

namespace Sys2Proof.Machine

def exec (i : Instr) (s : State) : Host.Outcome State Fault Refusal :=
  match i with
  | .init u => Sys2Proof.Machine.execInit u s
  | .gstat => Sys2Proof.Machine.execGstat s
  | .gpos => Sys2Proof.Machine.execGpos s
  | .stop u => Sys2Proof.Machine.execStop u s
  | .goto u pos => Sys2Proof.Machine.execGoto u pos s
  | .setcfg a d0 d1 d2 d3 => Sys2Proof.Machine.execSetcfg a d0 d1 d2 d3 s
  | .getcfg => Sys2Proof.Machine.execGetcfg s

end Sys2Proof.Machine
end

