-- ==== Sys2Proof/Machine/Step.lean ====
section
/-! DEFINITION. One step: the next input is taken, and the rule of that event runs (00_scope R3). -/

namespace Sys2Proof.Machine

/-- One input, each one atomic step (R3, R65). A request frame is decoded and its instruction
run; a host access is enabled in every phase (R144, R209). -/
def takeInput (i : Input) (s : State) : Host.Outcome State Fault Refusal :=
  match i with
  | .request frame =>
    match decode frame with
    | .error why => .refused (.malformedRequest why)
    | .ok i => exec i s
  | .host op => .next (runHostOp op s)
  | .txAccept => txAccept s
  | .settleExpire => settleExpire s
  | .rxByte b => rxByte b s
  | .readTimeout => readTimeout s
  | .tErr => .next (tErr s)
  | .linkReady up => .next (linkReady up s)
  | .reset => .next (resetBlock s)

/-- One step of the machine: the next input in the order of occurrence (R65). -/
def step (s : State) : Host.Outcome State Fault Refusal :=
  takeInput (nextInput s).1 (nextInput s).2

/-- `s` with the instruction of a table word as the next input (log 9, 14). -/
def State.withFetchWord (s : State) (nbits w : Nat) : State :=
  { s with inbox := .request (tableFrame nbits w) :: s.inbox }

end Sys2Proof.Machine
end

