-- ==== Sys2Proof/Machine/Layout.lean ====
section
/-! DEFINITION. What a host reads out of a validated response (R166, R167, R169, R184), the map of the
device configuration image (20_memory R57, R58), and the chunks of a whole-image write (R186). No
rule of the block reads any of these (42 R170). -/

namespace Sys2Proof.Machine

/-! ### GetStatus (R166, R167) -/

/-- The status byte of unit `u`: response byte `8+u` (R166). -/
def unitStatus (u : Fin 3) (s : State) : Byte := s.resp[8 + u.val]

/-- `s[1:0]`, the motion state; its values have no meaning in the source (R166, U11). -/
def motionState (b : Byte) : Nat := b.toNat % 4

/-- `s[2]`, init-complete (R166). -/
def initComplete (b : Byte) : Bool := b.getLsbD 2

/-- `s[3]`, init-in-progress (R166). -/
def initInProgress (b : Byte) : Bool := b.getLsbD 3

/-- The default of INIT_STATUS_OFFSET(u), as observed (R9, R167). -/
def initStatusOffsetDefault (u : Fin 3) : Nat := 8 + (u.val + 1)

/-- The byte the Init flow reads for unit `u`, at the parameter's offset; `none` where the parameter
points outside RESP (R167; log 20). -/
def initFlowStatus (u : Fin 3) (s : State) : Option Byte := s.resp[Config.initStatusOffset u]?

/-! ### GetPosition (R169) -/

/-- `low + 256 * high`, the low byte at the lower index (R55, R169). -/
def value16 (s : State) (lo hi : Fin 250) : Nat := s.resp[lo].toNat + 256 * s.resp[hi].toNat

/-- Absolute position of unit `u`: bytes `1+4u`, `2+4u` (R169). -/
def absolutePosition (u : Fin 3) (s : State) : Nat :=
  value16 s ⟨1 + 4 * u.val, by omega⟩ ⟨2 + 4 * u.val, by omega⟩

/-- Incremental position of unit `u`: bytes `3+4u`, `4+4u` (R169). -/
def incrementalPosition (u : Fin 3) (s : State) : Nat :=
  value16 s ⟨3 + 4 * u.val, by omega⟩ ⟨4 + 4 * u.val, by omega⟩

/-- Raw absolute-encoder turn count of unit `u`: bytes `13+2u`, `14+2u` (R169). -/
def turnCount (u : Fin 3) (s : State) : Nat :=
  value16 s ⟨13 + 2 * u.val, by omega⟩ ⟨14 + 2 * u.val, by omega⟩

/-! ### The configuration image (R57, R58, R184) -/

/-- `image[i] = RESP[1 + i]` (R184). -/
def imageByte (i : Fin 248) (s : State) : Byte := s.resp[1 + i.val]

/-- What a byte of the image belongs to (R57). -/
inductive ImageField where
  | correction (unit : Fin 3) (entry : Fin 64)
  | wheelDiameter (unit : Fin 3) (byte : Fin 4)
  | tapeThickness (unit : Fin 3) (byte : Fin 4)
  | tapeLength (unit : Fin 3) (byte : Fin 4)
  | tapeHolePitch (unit : Fin 3) (byte : Fin 4)
  | liquidArgonLevel (byte : Fin 4)
  | tapeAlpha (byte : Fin 4)
  deriving DecidableEq, Repr

/-- The offset of a field's byte in the image (R57). -/
def ImageField.offset : ImageField → Nat
  | .correction u e => 64 * u.val + e.val
  | .wheelDiameter u b => 192 + 4 * u.val + b.val
  | .tapeThickness u b => 204 + 4 * u.val + b.val
  | .tapeLength u b => 216 + 4 * u.val + b.val
  | .tapeHolePitch u b => 228 + 4 * u.val + b.val
  | .liquidArgonLevel b => 240 + b.val
  | .tapeAlpha b => 244 + b.val

/-- A correction-table byte as a signed value: `byte > 127 → byte - 256` (R58). -/
def correctionValue (b : Byte) : Int := if b.toNat > 127 then (b.toNat : Int) - 256 else b.toNat

/-- A signed correction value as the byte written back: `v < 0 → v + 256` (R58; log 19). -/
def correctionByte (v : Int) : Byte := BitVec.ofInt 8 (if v < 0 then v + 256 else v)

/-- The four bytes of a little-endian binary32 as one 32-bit pattern (R55, R56). -/
def floatBits (b0 b1 b2 b3 : Byte) : BitVec 32 := b3 ++ b2 ++ b1 ++ b0

/-- The four bytes a binary32 pattern is stored as, the least significant first (R55, R58). -/
def floatBytes (w : BitVec 32) : Vector Byte 4 :=
  #v[w.extractLsb' 0 8, w.extractLsb' 8 8, w.extractLsb' 16 8, w.extractLsb' 24 8]

/-! ### The whole-image write (R186) -/

/-- Chunk `k` of an image: the SetConfigData command at address `4k` (R186). -/
def chunkInstr (image : Vector Byte 248) (k : Fin 62) : Instr :=
  .setcfg (BitVec.ofNat 8 (4 * k.val))
    (image[4 * k.val]) (image[4 * k.val + 1]) (image[4 * k.val + 2]) (image[4 * k.val + 3])

/-- The 62 commands of a whole-image write, in ascending order (R186). -/
def imageWrite (image : Vector Byte 248) : List Instr := (List.finRange 62).map (chunkInstr image)

end Sys2Proof.Machine
end

