-- ==== Sys2Proof/Safety.lean ====
section
/-! DEFINITION. The terms claims are stated in: runs over lists of inputs, the invariant of 10_state R37,
what a request buffer and a wire may hold, and the outcome the rules give a reply. -/

namespace Sys2Proof.Machine

/-! ### Runs -/

/-- The inputs `es` taken one after the other, stopping at the first fault or refusal (R65). -/
def runInputs : List Input → State → Host.Outcome State Fault Refusal
  | [], s => .next s
  | e :: es, s =>
    match takeInput e s with
    | .next t => runInputs es t
    | .fault r => .fault r
    | .refused r => .refused r

/-- The request bytes, then a reply whose first part arrives in the settle delay and whose second part
arrives in the read (R134, R137, R138): no `read_timeout` comes first, which is the premise
RESPONSE_IN_WINDOW of R244. -/
def replyCycle (early late : List Byte) : List Input :=
  List.replicate 7 .txAccept ++ early.map .rxByte ++ [.settleExpire] ++ late.map .rxByte

/-- The inputs that move a command towards its end (R148). -/
def progresses : Input → Bool
  | .txAccept => true
  | .settleExpire => true
  | .readTimeout => true
  | .tErr => true
  | .request _ => false
  | .host _ => false
  | .rxByte _ => false
  | .linkReady _ => false
  | .reset => false

/-- The inputs of the dispatcher, the transport and the timers: all but the host's, the link level
and reset (R8). -/
def isDispatcher : Input → Bool
  | .txAccept => true
  | .settleExpire => true
  | .rxByte _ => true
  | .readTimeout => true
  | .tErr => true
  | .request _ => false
  | .host _ => false
  | .linkReady _ => false
  | .reset => false

/-- The inputs by which a command can start or the state can be reset: a write to CTRL with bit 0 = 1,
a mnemonic, reset (R67). -/
def startsOrResets : Input → Bool
  | .request _ => true
  | .host (.wr a v) => decide (a = aCTRL) && startBit v
  | .host (.rd _) => false
  | .host .waitDone => false
  | .txAccept => false
  | .settleExpire => false
  | .rxByte _ => false
  | .readTimeout => false
  | .tErr => false
  | .linkReady _ => false
  | .reset => true

/-- Inputs that reach no command in flight: turns of `WAITDONE` and changes of the link level (R143). -/
def isQuiet : Input → Bool
  | .host .waitDone => true
  | .linkReady _ => true
  | .host (.wr _ _) => false
  | .host (.rd _) => false
  | .request _ => false
  | .txAccept => false
  | .settleExpire => false
  | .rxByte _ => false
  | .readTimeout => false
  | .tErr => false
  | .reset => false

/-! ### Commands -/

/-- The argument registers as an instruction's expansion leaves them (R93). -/
def argsAfter (i : Instr) (r : ArgRegs) : ArgRegs :=
  match i with
  | .init u => { r with opcode := 0xAA#8, unit := u }
  | .gstat => { r with opcode := 0x33#8 }
  | .gpos => { r with opcode := 0x55#8 }
  | .stop u => { r with opcode := 0xC3#8, unit := u }
  | .goto u pos => { r with opcode := 0x0F#8, unit := u, posLo := posLowByte pos, posHi := posHighByte pos }
  | .setcfg a d0 d1 d2 d3 =>
    { r with opcode := 0x88#8, addr := a, data0 := d0, data1 := d1, data2 := d2, data3 := d3 }
  | .getcfg => { r with opcode := 0x77#8 }

/-- The state after a mnemonic that an idle block with the link up accepts: the argument registers are
`r`, the request frame is `frame`, the expected length is `n` (R132, R161 to R183); the host's first
turn of `WAITDONE` has read STATUS = 0x05 and goes on waiting (R92). -/
def accepted (s : State) (r : ArgRegs) (frame : Vector Byte 7) (n : Nat) : State :=
  { s with
    args := r
    curOp := r.opcode
    curUnit := r.unit
    curAddr := r.addr
    txf := frame
    expLen := n
    txIdx := 0
    rxCount := 0
    result := .ok
    ack := 0
    done := false
    phase := .tx
    rdata := 0x05#8
    host := .waiting }

/-! ### Infinite runs and fairness (R148) -/

/-- An infinite run: each input, taken in the state of its place, answers the state of the next (R65). -/
def IsRun (state : Nat → State) (input : Nat → Input) : Prop :=
  ∀ n, takeInput (input n) (state n) = .next (state (n + 1))

/-- FAIR_ENV, the weak-fairness premise of R148, phase by phase: an event of the environment that is
enabled from some place on without end happens at or after that place. -/
structure FairEnv (state : Nat → State) (input : Nat → Input) : Prop where
  /-- In TX the transport takes the request byte or reports `t_err`. -/
  sending : ∀ n, (∀ m, n ≤ m → (state m).phase = .tx) →
    ∃ m, n ≤ m ∧ (input m = .txAccept ∨ input m = .tErr)
  /-- In SETTLE the settle timer expires. -/
  settling : ∀ n, (∀ m, n ≤ m → (state m).phase = .settle) → ∃ m, n ≤ m ∧ input m = .settleExpire
  /-- In READ the read timer expires, unless the buffer fills. -/
  reading : ∀ n, (∀ m, n ≤ m → (state m).phase = .read ∧ (state m).rxCount < (state m).expLen) →
    ∃ m, n ≤ m ∧ input m = .readTimeout

/-! ### Invariants -/

/-- The invariants of the dispatcher's state that every step keeps (10_state R37, R29, R30, R40). -/
structure Inv (s : State) : Prop where
  /-- `rx_count <= exp_len` (R37). -/
  rx_le : s.rxCount ≤ s.expLen
  /-- `exp_len` is one of 0, 4, 6, 15, 20, 250 (R33, R37). -/
  exp_values : s.expLen ∈ [0, 4, 6, 15, 20, 250]
  /-- `tx_idx` is in [0, 7] (R37). -/
  tx_le : s.txIdx ≤ 7
  /-- While `phase = TX`: `tx_idx < 7` and `rx_count = 0` (R37). -/
  sending : s.phase = .tx → s.txIdx < 7 ∧ s.rxCount = 0
  /-- `tx_idx = 7` unless `phase` is TX or IDLE (R37). -/
  sent_all : s.phase = .settle ∨ s.phase = .read → s.txIdx = 7
  /-- In phase READ the buffer is not full (R137, R138, R140). -/
  room : s.phase = .read → s.rxCount < s.expLen
  /-- While a command is in flight DONE is 0, RESULT reads 0x0 and ACK is 0x00 (R29, R30, R31). -/
  open_result : s.phase ≠ .idle → s.done = false ∧ s.result = .ok ∧ s.ack = 0
  /-- A command in flight has a legal opcode, and `exp_len` is its RESP_LEN (R33, R132). -/
  legal : s.phase ≠ .idle → ∃ c, commandOf s.curOp = some c ∧ s.expLen = respLen c
  /-- The settle timer runs exactly in phase SETTLE, with length SETTLE_DELAY(cur_op) (R37, R210). -/
  settle_timer : s.settleTimer =
    if s.phase = .settle then .running (Config.settleDelay s.curOp) else .stopped
  /-- The read timer runs exactly in phase READ, with length READ_TIMEOUT (R37, R210). -/
  read_timer : s.readTimer = if s.phase = .read then .running Config.readTimeout else .stopped

/-- TXF holds its reset value or the request frame of an instruction (R34); in flight it is a request
of the command latched in `cur_op`, and byte 1 is the unit or the address its echo is checked against
(R37). -/
structure RequestInv (s : State) : Prop where
  frame : s.txf = Vector.replicate 7 0 ∨ ∃ i : Instr, i.WellFormed ∧ s.txf.toList = encode i
  opcode : s.phase ≠ .idle → s.txf[0] = s.curOp ∧ ∃ c, commandOf s.curOp = some c
  unit : s.phase ≠ .idle → s.curOp = 0x0F#8 → s.txf[1] = s.curUnit
  address : s.phase ≠ .idle → s.curOp = 0x88#8 → s.txf[1] = s.curAddr

/-- The request stream ends with the bytes of TXF the transport has taken, in index order (R54, R135). -/
def WireInv (s : State) : Prop :=
  s.phase ≠ .idle → ∃ earlier, s.sent = earlier ++ s.txf.toList.take s.txIdx

/-! ### Outcomes -/

/-- The result the rules give a reply of full length (R142, R163, R181, in the order of R204): of the
instruction's own operands, with nothing of the state. -/
def verdict (i : Instr) (raw : List Byte) : ResultCode :=
  if csum (raw.take (respLen i.command - 1)) ≠ raw.getD (respLen i.command - 1) 0 then .checksumMismatch
  else if raw.getD 0 0 ≠ opcodeOf i.command then .opcodeMismatch
  else
    match i with
    | .init _ => .ok
    | .gstat => .ok
    | .gpos => .ok
    | .stop _ => .ok
    | .goto u _ => if raw.getD 1 0 ≠ u then .unitMismatch else .ok
    | .setcfg a _ _ _ _ =>
      if raw.getD 1 0 ≠ a then .addressMismatch
      else if raw.getD 2 0 = 0 then .ok else .deviceNack
    | .getcfg => .ok

/-- How far a command in flight is from its end, in inputs that progress it (R148). -/
def remaining (s : State) : Nat :=
  match s.phase with
  | .idle => 0
  | .tx => 9 - s.txIdx
  | .settle => 2
  | .read => 1

/-- The part of the state a dispatcher event reads and writes: not the argument registers, the link
level, the host or the inputs still to come (R27, R143, R144). -/
structure CommandView where
  done : Bool
  result : ResultCode
  ack : Byte
  txf : Vector Byte 7
  resp : Vector Byte 250
  phase : Phase
  curOp : Byte
  curUnit : Byte
  curAddr : Byte
  expLen : Nat
  txIdx : Nat
  rxCount : Nat
  settleTimer : Timer
  readTimer : Timer
  sent : List Byte
  deriving DecidableEq, Repr

/-- The command view of a state. -/
def State.view (s : State) : CommandView where
  done := s.done
  result := s.result
  ack := s.ack
  txf := s.txf
  resp := s.resp
  phase := s.phase
  curOp := s.curOp
  curUnit := s.curUnit
  curAddr := s.curAddr
  expLen := s.expLen
  txIdx := s.txIdx
  rxCount := s.rxCount
  settleTimer := s.settleTimer
  readTimer := s.readTimer
  sent := s.sent

end Sys2Proof.Machine
end

