-- ==== Sys2Proof/Certificates/Slice0/Obligations.lean ====
section
/-! DEFINITION. The statements about the model, each formalising or resting on the rules of spec/ that its
docstring names. -/

open Sys2Proof Sys2Proof.Machine

/-! ### The frame codec (40_frame_codec) -/

/-- R110: both forms of `csum`, its corner cases and its example. -/
def Obligations.ChecksumComplementsTheSum : Prop :=
  (∀ s : List Byte,
    csum s = BitVec.ofNat 8 (byteSum s % 256) ^^^ 0xFF#8 ∧
    (csum s).toNat = 255 - byteSum s % 256 ∧
    (byteSum s % 256 = 0 → csum s = 0xFF#8) ∧
    (byteSum s % 256 = 255 → csum s = 0x00#8)) ∧
  csum [] = 0xFF#8 ∧
  byteSum [0xAA#8, 0x01#8, 0x55#8, 0xFE#8, 0x55#8, 0xFE#8] = 849 ∧
  csum [0xAA#8, 0x01#8, 0x55#8, 0xFE#8, 0x55#8, 0xFE#8] = 0xAE#8

/-- R111: a frame with its checksum sums to 0xFF, and a non-empty frame passes the check exactly when it
does. -/
def Obligations.FrameSumLaw : Prop :=
  (∀ s : List Byte, byteSum (s ++ [csum s]) % 256 = 0xFF) ∧
  ∀ (f : List Byte) (hf : f ≠ []),
    csum f.dropLast = f.getLast hf ↔ byteSum f % 256 = 0xFF

/-- R112: the complement and its corner cases. -/
def Obligations.ComplementLaws : Prop :=
  (∀ b : Byte, not8 b = b ^^^ 0xFF#8 ∧ not8 (not8 b) = b ∧ b.toNat + (not8 b).toNat = 255) ∧
  not8 0x00#8 = 0xFF#8 ∧ not8 0xFF#8 = 0x00#8

/-- R113, R115: what `build_request` makes, and that it passes the checksum test against itself. -/
def Obligations.BuiltRequestPassesItsOwnCheck : Prop :=
  (∀ (op f0 f1 f2 f3 f4 : Byte),
    (buildRequest op #v[f0, f1, f2, f3, f4]).toList =
      [op, f0, f1, f2, f3, f4] ++ [csum [op, f0, f1, f2, f3, f4]]) ∧
  (∀ (op : Byte) (f : Vector Byte 5),
    csum ((buildRequest op f).toList.take 6) = (buildRequest op f)[6] ∧
    validateResponse op (buildRequest op f).toList 7 = some (.ok (buildRequest op f).toList)) ∧
  buildRequest 0xAA#8 #v[0x01#8, 0x55#8, 0xFE#8, 0x55#8, 0xFE#8] =
    #v[0xAA#8, 0x01#8, 0x55#8, 0xFE#8, 0x55#8, 0xFE#8, 0xAE#8]

/-- R116: the three checks in their order, the first that fails decides. -/
def Obligations.ValidationChecksInOrder : Prop :=
  ∀ (op : Byte) (raw : List Byte) (n : Nat), 1 ≤ n →
    (raw.length ≠ n → validateResponse op raw n = some (.lengthMismatch raw.length)) ∧
    ∀ (body : List Byte) (c x : Byte),
      raw = body ++ [c] → raw.length = n → raw.head? = some x →
        (csum body ≠ c → validateResponse op raw n = some (.checksumMismatch c)) ∧
        (csum body = c → x ≠ op → validateResponse op raw n = some (.opcodeMismatch x)) ∧
        (csum body = c → x = op → validateResponse op raw n = some (.ok raw))

/-- R118: one flipped bit, in any byte including the checksum and the opcode, is a checksum mismatch. -/
def Obligations.SingleBitFlipFailsTheChecksum : Prop :=
  ∀ (op : Byte) (f : List Byte) (hf : f ≠ []) (i k : Nat) (hi : i < f.length),
    csum f.dropLast = f.getLast hf → k < 8 →
      ∃ c, validateResponse op (f.set i (f[i] ^^^ (1#8 <<< k))) f.length = some (.checksumMismatch c)

/-- R119: frames with equal sums mod 256 pass or fail the checksum test alike; reordering the bytes,
and flipping bit 7 of two bytes, are such changes. -/
def Obligations.EqualSumsPassAlike : Prop :=
  (∀ (f g : List Byte) (hf : f ≠ []) (hg : g ≠ []), byteSum f % 256 = byteSum g % 256 →
    (csum f.dropLast = f.getLast hf ↔ csum g.dropLast = g.getLast hg)) ∧
  (∀ f g : List Byte, f.Perm g → byteSum f = byteSum g) ∧
  (∀ (f : List Byte) (i j : Nat) (hi : i < f.length) (hj : j < f.length), i ≠ j →
    byteSum ((f.set i (f[i] ^^^ 0x80#8)).set j (f[j] ^^^ 0x80#8)) % 256 = byteSum f % 256)

/-! ### Encoding (30_encoding) -/

/-- R84: the seven opcodes, their complements and response lengths, and no other opcode. -/
def Obligations.SevenOpcodesAndNoOther : Prop :=
  (∀ c : Command, commandOf (opcodeOf c) = some c) ∧
  (∀ op : Byte, commandOf op = none ↔
    op ∉ [0xAA#8, 0x33#8, 0x55#8, 0xC3#8, 0x0F#8, 0x88#8, 0x77#8]) ∧
  (opcodeOf .init, respLen .init) = (0xAA#8, 4) ∧
  (opcodeOf .getStatus, respLen .getStatus) = (0x33#8, 15) ∧
  (opcodeOf .getPosition, respLen .getPosition) = (0x55#8, 20) ∧
  (opcodeOf .stop, respLen .stop) = (0xC3#8, 4) ∧
  (opcodeOf .gotoPosition, respLen .gotoPosition) = (0x0F#8, 6) ∧
  (opcodeOf .setConfigData, respLen .setConfigData) = (0x88#8, 4) ∧
  (opcodeOf .getConfigMemory, respLen .getConfigMemory) = (0x77#8, 250) ∧
  not8 0xAA#8 = 0x55#8 ∧ not8 0x33#8 = 0xCC#8 ∧ not8 0x55#8 = 0xAA#8 ∧ not8 0xC3#8 = 0x3C#8 ∧
  not8 0x0F#8 = 0xF0#8 ∧ not8 0x88#8 = 0x77#8 ∧ not8 0x77#8 = 0x88#8

/-- R80, R82, with the checksum forms of R161 and R162: the frame of every instruction. -/
def Obligations.RequestFrameOfEveryInstruction : Prop :=
  (∀ i : Instr, (encode i).length = 7 ∧ (encode i)[6]? = some (csum ((encode i).take 6))) ∧
  (∀ u : Byte, encode (.init u) =
    [0xAA#8, u, 0x55#8, u ^^^ 0xFF#8, 0x55#8, u ^^^ 0xFF#8, (82#8 - u) ^^^ 0xFF#8]) ∧
  (∀ u : Byte, encode (.stop u) =
    [0xC3#8, u, 0x3C#8, u ^^^ 0xFF#8, 0x3C#8, u ^^^ 0xFF#8, (57#8 - u) ^^^ 0xFF#8]) ∧
  (∀ (u : Byte) (pos : Nat), pos ≤ 65535 → encode (.goto u pos) =
    [0x0F#8, u, BitVec.ofNat 8 (pos % 256), BitVec.ofNat 8 (pos / 256), 0xF0#8, u ^^^ 0xFF#8,
      csum [0x0F#8, u, BitVec.ofNat 8 (pos % 256), BitVec.ofNat 8 (pos / 256), 0xF0#8, u ^^^ 0xFF#8]]) ∧
  (∀ a d0 d1 d2 d3 : Byte, encode (.setcfg a d0 d1 d2 d3) =
    [0x88#8, a, d0, d1, d2, d3, (0x88#8 + a + d0 + d1 + d2 + d3) ^^^ 0xFF#8]) ∧
  encode .gstat = [0x33#8, 0, 0, 0, 0, 0, 0xCC#8] ∧
  encode .gpos = [0x55#8, 0, 0, 0, 0, 0, 0xAA#8] ∧
  encode .getcfg = [0x77#8, 0, 0, 0, 0, 0, 0x88#8]

/-- R85: every well-formed instruction is decoded from its frame. -/
def Obligations.EncodedInstructionDecodesBack : Prop :=
  ∀ i : Instr, i.WellFormed → decode (encode i) = .ok i

/-- R85: a frame that decodes is exactly the request frame of a well-formed instruction. -/
def Obligations.DecodedFrameIsTheEncoding : Prop :=
  ∀ (f : List Byte) (i : Instr), decode f = .ok i → i.WellFormed ∧ encode i = f

/-- spec/opcode_table.json, R81: a word that matches a row's mask and match is that row's instruction,
and no word matches two rows. That the bytes a mask leaves open are completed is log 9. -/
def Obligations.TableWordsDecodeToTheirRow : Prop :=
  (∀ r ∈ tableRows, ∀ w : Nat, w < 2 ^ 56 → w &&& r.mask = r.value →
    decodeTableWord 56 w = some (r.read w)) ∧
  tableRows.Pairwise (fun r q => ∀ w : Nat, ¬ (w &&& r.mask = r.value ∧ w &&& q.mask = q.value))

/-- Frames written out byte by byte from R82 and 95_test_vectors V2 decode to their instructions. -/
def Obligations.WrittenFramesDecode : Prop :=
  decode [0xAA#8, 0x02#8, 0x55#8, 0xFD#8, 0x55#8, 0xFD#8, 0xAF#8] = .ok (.init 2) ∧
  decode [0xC3#8, 0x00#8, 0x3C#8, 0xFF#8, 0x3C#8, 0xFF#8, 0xC6#8] = .ok (.stop 0) ∧
  decode [0x0F#8, 0x01#8, 0xE8#8, 0x03#8, 0xF0#8, 0xFE#8, 0x16#8] = .ok (.goto 1 1000) ∧
  decode [0x88#8, 0x04#8, 0xFF#8, 0x80#8, 0x7F#8, 0x00#8, 0x75#8] = .ok (.setcfg 4 0xFF 0x80 0x7F 0) ∧
  decode [0x77#8, 0x00#8, 0x00#8, 0x00#8, 0x00#8, 0x00#8, 0x88#8] = .ok .getcfg ∧
  decode [0x33#8, 0x00#8, 0x00#8, 0x00#8, 0x00#8, 0x00#8, 0xCC#8] = .ok .gstat ∧
  decode [0x55#8, 0x00#8, 0x00#8, 0x00#8, 0x00#8, 0x00#8, 0xAA#8] = .ok .gpos

/-! ### Steps and instructions -/

/-- A request frame at the head of the inbox: step runs the instruction it decodes to in the state without
it, in any phase and wherever the host's WAITDONE stands (R144, R209), and a malformed one is refused by its
reason. The inbox and the refusal are the model's (log 1, 2). -/
def Obligations.StepRunsTheDecodedInstruction : Prop :=
  ∀ (s : State) (frame : List Byte) (rest : List Input), s.inbox = .request frame :: rest →
    (∀ i, decode frame = .ok i → step s = exec i { s with inbox := rest }) ∧
    (∀ e, decode frame = .error e → step s = .refused (.malformedRequest e))

/-- A table word that decodes is what the very next step runs (log 9, 14). -/
def Obligations.PlacedTableWordRunsNext : Prop :=
  ∀ (s : State) (nbits w : Nat) (i : Instr), decodeTableWord nbits w = some i →
    step (s.withFetchWord nbits w) = exec i s

/-- R132, R161, R162: INIT and STOP on an idle block with the link up. One step for the mnemonic is log
1. -/
def Obligations.InitAndStopSendTheirFrame : Prop :=
  ∀ (u : Byte) (s : State), s.phase = .idle → s.link = true →
    exec (.init u) s =
      .next (accepted s { s.args with opcode := 0xAA#8, unit := u }
        #v[0xAA#8, u, 0x55#8, u ^^^ 0xFF#8, 0x55#8, u ^^^ 0xFF#8, (82#8 - u) ^^^ 0xFF#8] 4) ∧
    exec (.stop u) s =
      .next (accepted s { s.args with opcode := 0xC3#8, unit := u }
        #v[0xC3#8, u, 0x3C#8, u ^^^ 0xFF#8, 0x3C#8, u ^^^ 0xFF#8, (57#8 - u) ^^^ 0xFF#8] 4)

/-- R132, R163, R24: GOTO on an idle block with the link up; `lo` and `hi` are the bytes of the target,
low byte first. One step for the mnemonic is log 1. -/
def Obligations.GotoSendsItsFrame : Prop :=
  ∀ (u lo hi : Byte) (s : State), s.phase = .idle → s.link = true →
    exec (.goto u (lo.toNat + 256 * hi.toNat)) s =
      .next (accepted s { s.args with opcode := 0x0F#8, unit := u, posLo := lo, posHi := hi }
        #v[0x0F#8, u, lo, hi, 0xF0#8, u ^^^ 0xFF#8, csum [0x0F#8, u, lo, hi, 0xF0#8, u ^^^ 0xFF#8]] 6)

/-- R132, R165, R168, R183: GSTAT, GPOS and GETCFG on an idle block with the link up; their frames are
fixed whatever the argument registers hold. One step for the mnemonic is log 1. -/
def Obligations.ReadCommandsSendTheirFixedFrame : Prop :=
  ∀ s : State, s.phase = .idle → s.link = true →
    exec .gstat s =
      .next (accepted s { s.args with opcode := 0x33#8 } #v[0x33#8, 0, 0, 0, 0, 0, 0xCC#8] 15) ∧
    exec .gpos s =
      .next (accepted s { s.args with opcode := 0x55#8 } #v[0x55#8, 0, 0, 0, 0, 0, 0xAA#8] 20) ∧
    exec .getcfg s =
      .next (accepted s { s.args with opcode := 0x77#8 } #v[0x77#8, 0, 0, 0, 0, 0, 0x88#8] 250)

/-- R132, R180: SETCFG on an idle block with the link up. One step for the mnemonic is log 1. -/
def Obligations.SetcfgSendsItsFrame : Prop :=
  ∀ (a d0 d1 d2 d3 : Byte) (s : State), s.phase = .idle → s.link = true →
    exec (.setcfg a d0 d1 d2 d3) s =
      .next (accepted s
        { s.args with opcode := 0x88#8, addr := a, data0 := d0, data1 := d1, data2 := d2, data3 := d3 }
        #v[0x88#8, a, d0, d1, d2, d3, (0x88#8 + a + d0 + d1 + d2 + d3) ^^^ 0xFF#8] 4)

/-- R133: every instruction on an idle block with the link down is built, not sent, and completes at once
with TRANSPORT_ERROR; the host's first read of STATUS sees DONE. One step for the mnemonic is log 1. -/
def Obligations.LinkDownInstructionFailsUnsent : Prop :=
  ∀ (i : Instr) (s : State), s.phase = .idle → s.link = false →
    ∃ f : Vector Byte 7, f.toList = encode i ∧
      exec i s = .next { s with
        args := argsAfter i s.args
        curOp := opcodeOf i.command
        curUnit := (argsAfter i s.args).unit
        curAddr := (argsAfter i s.args).addr
        txf := f
        expLen := respLen i.command
        txIdx := 0
        rxCount := 0
        ack := 0
        result := .transportError
        done := true
        rdata := 0x02#8
        host := .ready }

/-- R130, R236: every instruction issued while a command is in flight writes its argument registers and
loses its START. One step for the mnemonic is log 1. -/
def Obligations.BusyInstructionLosesItsStart : Prop :=
  ∀ (i : Instr) (s : State), s.phase ≠ .idle →
    exec i s = .next { s with
      args := argsAfter i s.args
      rdata := statusByte s
      host := if s.done then .ready else .waiting }

/-- R92, R93: a mnemonic is its expansion into host primitives, one after the other. That `exec` takes
them as one step is log 1. -/
def Obligations.MnemonicIsItsExpansion : Prop :=
  ∀ s : State,
    (∀ u, runInputs [.host (.wr 0x000 0xAA), .host (.wr 0x001 u), .host (.wr 0x009 1), .host .waitDone] s
      = exec (.init u) s) ∧
    (∀ u, runInputs [.host (.wr 0x000 0xC3), .host (.wr 0x001 u), .host (.wr 0x009 1), .host .waitDone] s
      = exec (.stop u) s) ∧
    (∀ u pos, runInputs [.host (.wr 0x000 0x0F), .host (.wr 0x001 u),
        .host (.wr 0x002 (BitVec.ofNat 8 (pos % 256))), .host (.wr 0x003 (BitVec.ofNat 8 (pos / 256))),
        .host (.wr 0x009 1), .host .waitDone] s
      = exec (.goto u pos) s) ∧
    runInputs [.host (.wr 0x000 0x33), .host (.wr 0x009 1), .host .waitDone] s = exec .gstat s ∧
    runInputs [.host (.wr 0x000 0x55), .host (.wr 0x009 1), .host .waitDone] s = exec .gpos s ∧
    (∀ a d0 d1 d2 d3, runInputs [.host (.wr 0x000 0x88), .host (.wr 0x004 a), .host (.wr 0x005 d0),
        .host (.wr 0x006 d1), .host (.wr 0x007 d2), .host (.wr 0x008 d3),
        .host (.wr 0x009 1), .host .waitDone] s
      = exec (.setcfg a d0 d1 d2 d3) s) ∧
    runInputs [.host (.wr 0x000 0x77), .host (.wr 0x009 1), .host .waitDone] s = exec .getcfg s

/-- The frame of the seven instructions (R27, R34, R35, R93, R132): each changes OPCODE and the argument
registers its expansion names, and no other argument register; no instruction changes a byte of RESP, the
link level, a timer, the wire or the inputs to come; and one issued while busy changes no register of the
command in flight. One step for the mnemonic is log 1. -/
def Obligations.InstructionFrame : Prop :=
  ∀ (i : Instr) (s t : State), exec i s = .next t →
    (∀ k : Fin 250, readReg (.resp k) t = readReg (.resp k) s) ∧
    t.link = s.link ∧ t.settleTimer = s.settleTimer ∧ t.readTimer = s.readTimer ∧
    t.sent = s.sent ∧ t.inbox = s.inbox ∧ t.draws = s.draws ∧
    t.args.opcode = opcodeOf i.command ∧
    (i.command ∈ [.getStatus, .getPosition, .getConfigMemory] →
      t.args = { s.args with opcode := opcodeOf i.command }) ∧
    (i.command ∈ [.init, .stop] →
      t.args = { s.args with opcode := opcodeOf i.command, unit := t.args.unit }) ∧
    (i.command = .gotoPosition →
      t.args = { s.args with
        opcode := opcodeOf i.command, unit := t.args.unit, posLo := t.args.posLo, posHi := t.args.posHi }) ∧
    (i.command = .setConfigData →
      t.args = { t.args with unit := s.args.unit, posLo := s.args.posLo, posHi := s.args.posHi }) ∧
    (s.phase ≠ .idle → t.view = s.view)

/-! ### START (41_dispatcher R130 to R133, 10_state R28) -/

/-- R28, R130: a CTRL write without bit 0 has no effect, and a START while busy leaves no trace. -/
def Obligations.LostStartLeavesNoTrace : Prop :=
  ∀ (v : Byte) (s : State),
    (v.getLsbD 0 = false → hostWrite 0x009 v s = s) ∧
    (v.getLsbD 0 = true → s.phase ≠ .idle → hostWrite 0x009 v s = s)

/-- R131: the START of an opcode with no command, at any link level. -/
def Obligations.IllegalOpcodeStart : Prop :=
  ∀ (v : Byte) (s : State), s.phase = .idle → v.getLsbD 0 = true →
    s.args.opcode ∉ [0xAA#8, 0x33#8, 0x55#8, 0xC3#8, 0x0F#8, 0x88#8, 0x77#8] →
    hostWrite 0x009 v s = { s with
      result := .illegalCommand, ack := 0, rxCount := 0, expLen := 0, done := true }

/-- R132: the START of a legal opcode with the link up; no later host write reaches the command. -/
def Obligations.AcceptedStart : Prop :=
  ∀ (v : Byte) (c : Command) (s : State), s.phase = .idle → v.getLsbD 0 = true →
    s.args.opcode = opcodeOf c → s.link = true →
    hostWrite 0x009 v s = { s with
      curOp := s.args.opcode
      curUnit := s.args.unit
      curAddr := s.args.addr
      txf := buildRequest s.args.opcode (fields c s.args)
      expLen := respLen c
      txIdx := 0
      rxCount := 0
      result := .ok
      ack := 0
      done := false
      phase := .tx } ∧
    ∀ (a : HostAddr) (w : Byte), (hostWrite a w (hostWrite 0x009 v s)).view = (hostWrite 0x009 v s).view

/-- R133: the START of a legal opcode with the link down. -/
def Obligations.LinkDownStart : Prop :=
  ∀ (v : Byte) (c : Command) (s : State), s.phase = .idle → v.getLsbD 0 = true →
    s.args.opcode = opcodeOf c → s.link = false →
    hostWrite 0x009 v s = { s with
      curOp := s.args.opcode
      curUnit := s.args.unit
      curAddr := s.args.addr
      txf := buildRequest s.args.opcode (fields c s.args)
      expLen := respLen c
      txIdx := 0
      rxCount := 0
      ack := 0
      result := .transportError
      done := true }

/-! ### The dispatcher's events (41_dispatcher R134 to R143) -/

/-- R134: `tx_accept` takes the byte on `tx_data`; enabled only in phase TX. The refusal is log 3, the
wire log 11. -/
def Obligations.TxAcceptTakesTheNextByte : Prop :=
  ∀ s : State,
    (∀ h : s.txIdx < 7, s.phase = .tx →
      txData s = s.txf[s.txIdx] ∧
      (s.txIdx ≠ 6 → takeInput .txAccept s =
        .next { s with sent := s.sent ++ [s.txf[s.txIdx]], txIdx := s.txIdx + 1 }) ∧
      (s.txIdx = 6 → takeInput .txAccept s =
        .next { s with
          sent := s.sent ++ [s.txf[s.txIdx]]
          txIdx := 7
          phase := .settle
          settleTimer := .running (Config.settleDelay s.curOp) })) ∧
    (s.phase ≠ .tx → takeInput .txAccept s = .refused .notEnabled)

/-- R134, R135: seven `tx_accept` put the whole frame on the wire, TXF0 first, and end in SETTLE. The
wire log is log 11. -/
def Obligations.SevenAcceptsSendTheWholeFrame : Prop :=
  ∀ s : State, s.phase = .tx → s.txIdx = 0 →
    runInputs (List.replicate 7 .txAccept) s = .next { s with
      sent := s.sent ++ s.txf.toList
      txIdx := 7
      phase := .settle
      settleTimer := .running (Config.settleDelay s.curOp) }

/-- R137: `settle_expire` validates a full buffer and opens the read otherwise; enabled only in SETTLE.
The refusal is log 3, the settle timer that stops is log 8. -/
def Obligations.SettleExpiryValidatesOrReads : Prop :=
  ∀ s : State,
    (s.phase = .settle → s.rxCount = s.expLen →
      takeInput .settleExpire s = finish (s.resp.toList.take s.rxCount) s) ∧
    (s.phase = .settle → s.rxCount ≠ s.expLen →
      takeInput .settleExpire s = .next { s with
        phase := .read, settleTimer := .stopped, readTimer := .running Config.readTimeout }) ∧
    (s.phase ≠ .settle → takeInput .settleExpire s = .refused .notEnabled)

/-- R138, R139: a byte in the capture window is stored at RESP[rx_count], the one that fills the buffer
in phase READ validates the frame with itself in it, and any other byte is discarded. -/
def Obligations.ReceivedByteIsStoredOrDiscarded : Prop :=
  ∀ (b : Byte) (s : State),
    (∀ h : s.rxCount < 250, (s.phase = .settle ∨ s.phase = .read) → s.rxCount < s.expLen →
      (¬ (s.phase = .read ∧ s.rxCount + 1 = s.expLen) →
        takeInput (.rxByte b) s =
          .next { s with resp := s.resp.set s.rxCount b, rxCount := s.rxCount + 1 }) ∧
      (s.phase = .read → s.rxCount + 1 = s.expLen →
        takeInput (.rxByte b) s =
          finish (s.resp.toList.take s.rxCount ++ [b])
            { s with resp := s.resp.set s.rxCount b, rxCount := s.rxCount + 1 })) ∧
    (s.phase = .idle ∨ s.phase = .tx ∨ s.rxCount = s.expLen → takeInput (.rxByte b) s = .next s)

/-- R140: `read_timeout` is always LENGTH_MISMATCH; enabled only in READ with room left. The refusal is
log 3. -/
def Obligations.ReadTimeoutIsLengthMismatch : Prop :=
  ∀ s : State,
    (s.phase = .read → s.rxCount < s.expLen →
      takeInput .readTimeout s = .next { s with
        result := .lengthMismatch, done := true, phase := .idle,
        settleTimer := .stopped, readTimer := .stopped }) ∧
    (¬ (s.phase = .read ∧ s.rxCount < s.expLen) → takeInput .readTimeout s = .refused .notEnabled)

/-- R141: `t_err` ends a command in flight with TRANSPORT_ERROR and has no effect in IDLE. -/
def Obligations.TransportErrorEndsTheCommand : Prop :=
  ∀ s : State,
    (s.phase ≠ .idle →
      takeInput .tErr s = .next { s with
        result := .transportError, done := true, phase := .idle,
        settleTimer := .stopped, readTimer := .stopped }) ∧
    (s.phase = .idle → takeInput .tErr s = .next s)

/-- R142, R160, R163, R181, R204: what the checks give a frame of any length for any command, in their
order, and which value ACK takes. -/
def Obligations.ChecksRunInOrder : Prop :=
  ∀ (c : Command) (raw : List Byte) (s : State), s.curOp = opcodeOf c → s.expLen = respLen c →
    ∃ (code : ResultCode) (ack : Byte),
      finish raw s = .next { s with
        result := code, ack := ack, done := true, phase := .idle,
        settleTimer := .stopped, readTimer := .stopped } ∧
      (code, ack) =
        if raw.length ≠ respLen c then (.lengthMismatch, s.ack)
        else if byteSum raw % 256 ≠ 255 then (.checksumMismatch, s.ack)
        else if raw[0]? ≠ some s.curOp then (.opcodeMismatch, s.ack)
        else if c = .gotoPosition then
          (if raw[1]? = some s.curUnit then .ok else .unitMismatch, s.ack)
        else if c = .setConfigData then
          if raw[1]? ≠ some s.curAddr then (.addressMismatch, s.ack)
          else if raw[2]? = some 0 then (.ok, 0) else (.deviceNack, raw.getD 2 0)
        else (.ok, s.ack)

/-- R181: the extra validation of SetConfigData on a reply whose frame checks pass. -/
def Obligations.SetConfigDataChecksAddressThenAck : Prop :=
  ∀ (a k : Byte) (s : State), s.curOp = 0x88#8 → s.expLen = 4 →
    finish [0x88#8, a, k, csum [0x88#8, a, k]] s = .next (
      if a ≠ s.curAddr then complete .addressMismatch s
      else if k = 0 then complete .ok { s with ack := 0 }
      else complete .deviceNack { s with ack := k })

/-- R88, R160: for the five commands with no extra check, a reply with the right length, opcode and
checksum is OK whatever its payload. -/
def Obligations.PlainCommandsAcceptAnyPayload : Prop :=
  ∀ (c : Command) (payload : List Byte) (s : State),
    c ∈ [.init, .stop, .getStatus, .getPosition, .getConfigMemory] →
    s.curOp = opcodeOf c → s.expLen = respLen c → payload.length + 2 = respLen c →
    finish (opcodeOf c :: payload ++ [csum (opcodeOf c :: payload)]) s = .next (complete .ok s)

/-- R31, R206: an input that ends a command in flight changes RESULT, DONE, phase and
the timers, ACK for SetConfigData only, and, when it is the byte that fills the buffer, that byte. -/
def Obligations.CompletionChangesOnlyItsRegisters : Prop :=
  ∀ (e : Input) (s t : State), isDispatcher e = true → s.phase ≠ .idle →
    takeInput e s = .next t → t.phase = .idle →
    t.done = true ∧ (s.curOp ≠ 0x88#8 → t.ack = s.ack) ∧
    t = { s with
      result := t.result, ack := t.ack, done := true, phase := .idle,
      settleTimer := .stopped, readTimer := .stopped, resp := t.resp, rxCount := t.rxCount } ∧
    ((t.resp = s.resp ∧ t.rxCount = s.rxCount) ∨
      ∃ (b : Byte) (h : s.rxCount < 250),
        e = .rxByte b ∧ t.resp = s.resp.set s.rxCount b ∧ t.rxCount = s.rxCount + 1)

/-- R143: the link level changes nothing but itself, in any phase. -/
def Obligations.LinkLevelAloneChangesNothing : Prop :=
  ∀ (up : Bool) (s : State), takeInput (.linkReady up) s = .next { s with link := up }

/-! ### The host register space (10_state R21 to R35, 20_memory R51) -/

/-- R22 to R26, R51: a write to one of the nine argument registers reads back whole, and no other address
reads differently after it. -/
def Obligations.ArgumentRegistersReadBack : Prop :=
  ∀ (a b : HostAddr) (v : Byte) (s : State), a.toNat ≤ 8 →
    ∃ t, takeInput (.host (.wr a v)) s = .next t ∧
      readAt a t = v ∧ (b ≠ a → readAt b t = readAt b s) ∧ t.view = s.view

/-- R51: writes to read-only registers and reserved addresses are ignored; reserved addresses and CTRL
read 0x00. -/
def Obligations.ReadOnlyAndReservedAddresses : Prop :=
  ∀ (a : HostAddr) (v : Byte) (s : State),
    (10 ≤ a.toNat → hostWrite a v s = s) ∧
    (a.toNat = 0x009 ∨ a.toNat = 0x00F ∨ (0x017 ≤ a.toNat ∧ a.toNat ≤ 0x0FF) ∨ 0x1FA ≤ a.toNat →
      readAt a s = 0)

/-- R51, R63, R144: a host read is enabled in every phase and changes nothing but the byte the host gets
(log 10). -/
def Obligations.HostReadHasNoSideEffect : Prop :=
  ∀ (a : HostAddr) (s : State),
    takeInput (.host (.rd a)) s = .next { s with rdata := readAt a s }

/-- R30 to R35, R200: what the read-only registers read. -/
def Obligations.ReadOnlyRegistersRead : Prop :=
  ∀ s : State,
    readAt 0x00B s = (match s.result with
      | .ok => 0 | .transportError => 1 | .lengthMismatch => 2 | .checksumMismatch => 3
      | .opcodeMismatch => 4 | .addressMismatch => 5 | .unitMismatch => 6 | .deviceNack => 7
      | .illegalCommand => 8) ∧
    readAt 0x00C s = s.ack ∧
    readAt 0x00D s = BitVec.ofNat 8 s.rxCount ∧
    readAt 0x00E s = BitVec.ofNat 8 s.expLen ∧
    (∀ i : Fin 7, readAt (BitVec.ofNat 9 (0x010 + i)) s = s.txf[i]) ∧
    (∀ i : Fin 250, readAt (BitVec.ofNat 9 (0x100 + i)) s = s.resp[i])

/-- R29: the bits of STATUS, and that BUSY and DONE are never 1 together where the invariant holds. -/
def Obligations.StatusBits : Prop :=
  ∀ s : State,
    ((readAt 0x00A s).getLsbD 0 = true ↔ s.phase ≠ .idle) ∧
    (readAt 0x00A s).getLsbD 1 = s.done ∧
    (readAt 0x00A s).getLsbD 2 = s.link ∧
    (∀ k, 3 ≤ k → (readAt 0x00A s).getLsbD k = false) ∧
    (Inv s → ¬ ((readAt 0x00A s).getLsbD 0 = true ∧ (readAt 0x00A s).getLsbD 1 = true))

/-- R92, R93: one turn of WAITDONE reads STATUS and ends exactly when DONE is 1; a host write is performed
wherever WAITDONE stands; and where the host starts commands by mnemonics alone, its WAITDONE has ended only
in phase IDLE, so it never issues START while busy. The host's place in WAITDONE is log 4, the byte it holds
log 10. -/
def Obligations.WaitDonePollsUntilDone : Prop :=
  ∀ s : State,
    takeInput (.host .waitDone) s = .next { s with
      rdata := readAt 0x00A s, host := if s.done then .ready else .waiting } ∧
    (∀ (a : HostAddr) (v : Byte), takeInput (.host (.wr a v)) s = .next (hostWrite a v s)) ∧
    ∀ (e : Input) (t : State), Inv s → (s.host = .ready → s.phase = .idle) →
      (∀ v : Byte, v.getLsbD 0 = true → e ≠ .host (.wr 0x009 v)) → takeInput e s = .next t →
      (t.host = .ready → t.phase = .idle)

/-! ### Reset (70_reset R230, 10_state R42) -/

/-- R230, R42: reset sets every piece of state to its reset value in any phase; the link level is kept
and RESP is a fresh draw (U4). What reset keeps is log 15, the draw log 5. -/
def Obligations.ResetRestoresEveryRegister : Prop :=
  ∀ s : State, ∃ t, takeInput .reset s = .next t ∧
    (∀ a : HostAddr, a.toNat < 0x100 → a ≠ 0x00A → readAt a t = 0) ∧
    readAt 0x00A t = (if s.link then 0x04 else 0x00) ∧ t.link = s.link ∧
    (∀ i : Fin 250, t.resp[i] = Config.respDraw s.draws i) ∧
    t.phase = .idle ∧ t.done = false ∧ t.curOp = 0 ∧ t.curUnit = 0 ∧ t.curAddr = 0 ∧
    t.expLen = 0 ∧ t.rxCount = 0 ∧ t.txIdx = 0 ∧
    t.settleTimer = .stopped ∧ t.readTimer = .stopped ∧ t.sent = s.sent

/-- State.reset meets the three invariants. The link level is log 6. -/
def Obligations.ResetMeetsTheInvariants : Prop :=
  Inv State.reset ∧ RequestInv State.reset ∧ WireInv State.reset

/-! ### Invariants of every step -/

/-- R37 (with R29 to R33, R40, R210): every step keeps the dispatcher's invariants. -/
def Obligations.EveryStepKeepsTheInvariant : Prop :=
  ∀ s t : State, Inv s → step s = .next t → Inv t

/-- R34, R37, R115: every step keeps TXF at its reset value or at the request frame of an instruction, of
the command in flight. -/
def Obligations.EveryStepKeepsTheRequestBuffer : Prop :=
  ∀ s t : State, RequestInv s → step s = .next t → RequestInv t

/-- R54, R66, R135: every step keeps the wire's end equal to the bytes of TXF taken so far. The wire log
is log 11. -/
def Obligations.EveryStepKeepsTheWire : Prop :=
  ∀ s t : State, WireInv s → step s = .next t → WireInv t

/-- R51, R206 (log 12): where the invariant holds, no step faults, and no validation has length 0
(R120). -/
def Obligations.NoStepFaults : Prop :=
  ∀ s : State, Inv s →
    (∀ f, step s ≠ .fault f) ∧ step s ≠ .refused .emptyValidation

/-- R120, R203: in flight the expected length is 4, 6, 15, 20 or 250, the captured bytes are rx_count many
and at most that, a LENGTH_MISMATCH means fewer bytes than expected, and length 0 is outside the
domain of `validate_response`. -/
def Obligations.InFlightValidationIsInDomain : Prop :=
  (∀ s : State, Inv s → s.phase ≠ .idle →
    s.expLen ∈ [4, 6, 15, 20, 250] ∧ s.rxCount ≤ s.expLen ∧
    (s.resp.toList.take s.rxCount).length = s.rxCount ∧
    ∀ (e : Input) (t : State), takeInput e s = .next t → t.result = .lengthMismatch →
      t.rxCount < t.expLen) ∧
  ∀ (op : Byte) (raw : List Byte), validateResponse op raw 0 = none

/-- R67: once the block is idle, no input but a START, a mnemonic or reset changes the results. -/
def Obligations.ResultsStayUntilTheNextStart : Prop :=
  ∀ (e : Input) (s t : State), s.phase = .idle → startsOrResets e = false → takeInput e s = .next t →
    t.phase = .idle ∧ t.done = s.done ∧ t.result = s.result ∧ t.ack = s.ack ∧
    t.rxCount = s.rxCount ∧ t.expLen = s.expLen ∧ t.txf = s.txf ∧ t.resp = s.resp

/-- R27, R144: no event of the dispatcher, the transport or the timers changes an argument register. -/
def Obligations.OnlyTheHostWritesArguments : Prop :=
  ∀ (e : Input) (s t : State), isDispatcher e = true → takeInput e s = .next t → t.args = s.args

/-- R27, R143, R144: an event of a command does the same whatever the argument registers, the link level
and the host hold; and while a command is in flight no host primitive and no change of the link level
reaches it. -/
def Obligations.HostDoesNotReachTheCommandInFlight : Prop :=
  (∀ (e : Input) (s s' t : State), isDispatcher e = true → s.view = s'.view →
    takeInput e s = .next t → ∃ t', takeInput e s' = .next t' ∧ t'.view = t.view) ∧
  (∀ (op : HostOp) (s t : State), s.phase ≠ .idle → takeInput (.host op) s = .next t →
    t.view = s.view) ∧
  (∀ (up : Bool) (s t : State), takeInput (.linkReady up) s = .next t → t.view = s.view)

/-- R38, R146: the phase graph. An input moves the phase only along its arrows. -/
def Obligations.PhaseGraph : Prop :=
  ∀ (e : Input) (s t : State), takeInput e s = .next t →
    t.phase = s.phase ∨
    (s.phase = .idle ∧ t.phase = .tx ∧ startsOrResets e = true ∧ s.link = true ∧ t.done = false ∧
      t.txIdx = 0 ∧ ∃ c, t.curOp = opcodeOf c) ∨
    (s.phase = .tx ∧ t.phase = .settle ∧ e = .txAccept ∧ s.txIdx = 6) ∨
    (s.phase = .settle ∧ t.phase = .read ∧ e = .settleExpire ∧ s.rxCount ≠ s.expLen) ∨
    (s.phase ≠ .idle ∧ t.phase = .idle ∧ e = .reset ∧ t.done = false) ∨
    (s.phase ≠ .idle ∧ t.phase = .idle ∧ t.done = true ∧
      (e = .tErr ∨
       (e = .settleExpire ∧ s.phase = .settle ∧ s.rxCount = s.expLen) ∨
       (e = .readTimeout ∧ s.phase = .read) ∨
       (s.phase = .read ∧ s.rxCount + 1 = s.expLen ∧ ∃ b, e = .rxByte b)))

/-! ### Whole commands -/

/-- R244, with R132 to R142, R163, R181: from an idle block with the link up, an instruction whose
request is taken and whose reply of the expected length arrives, part in the settle delay and part in the
read, ends with the outcome the rules give those bytes. Turns of WAITDONE and changes of the link level
may come in between (R143). No read timeout comes first: RESPONSE_IN_WINDOW. One step for the mnemonic is
log 1, the wire log 11. -/
def Obligations.ReplyInWindowGivesItsVerdict : Prop :=
  ∀ (i : Instr) (s : State) (early late : List Byte) (es : List Input),
    s.phase = .idle → s.link = true → (early ++ late).length = respLen i.command →
    es.filter (fun e => !isQuiet e) = replyCycle early late →
    ∃ t0 t, exec i s = .next t0 ∧ runInputs es t0 = .next t ∧
      t.phase = .idle ∧ t.done = true ∧ t.result = verdict i (early ++ late) ∧
      t.ack = (if i.command = .setConfigData ∧ t.result ∈ [.ok, .deviceNack]
        then (early ++ late).getD 2 0 else 0) ∧
      t.expLen = respLen i.command ∧ t.rxCount = t.expLen ∧
      t.resp.toList.take t.rxCount = early ++ late ∧
      t.sent = s.sent ++ encode i ∧ t.args = argsAfter i s.args

/-- R140, R202, R238: the same with fewer bytes than expected when the read times out: LENGTH_MISMATCH,
and RESP_LEN and RESP say how many came and which. One step for the mnemonic is log 1, the wire log 11. -/
def Obligations.ShortReplyTimesOut : Prop :=
  ∀ (i : Instr) (s : State) (early late : List Byte),
    s.phase = .idle → s.link = true → (early ++ late).length < respLen i.command →
    ∃ t0 t, exec i s = .next t0 ∧ runInputs (replyCycle early late ++ [.readTimeout]) t0 = .next t ∧
      t.phase = .idle ∧ t.done = true ∧ t.result = .lengthMismatch ∧ t.ack = 0 ∧
      t.expLen = respLen i.command ∧ t.rxCount = (early ++ late).length ∧
      t.resp.toList.take t.rxCount = early ++ late ∧ t.sent = s.sent ++ encode i

/-- R148: while a command is in flight, the progress event of its phase is enabled and brings it nearer
its end; a run with nine progress events passes through a state in which no command is in flight; an infinite
run under FAIR_ENV comes back to such a state again and again; and without FAIR_ENV a command may stay in TX
forever. -/
def Obligations.FairEnvironmentEndsEveryCommand : Prop :=
  (∀ s : State, Inv s →
    (s.phase = .tx → ∃ t, takeInput .txAccept s = .next t ∧ remaining t < remaining s) ∧
    (s.phase = .settle → ∃ t, takeInput .settleExpire s = .next t ∧ remaining t < remaining s) ∧
    (s.phase = .read → ∃ t, takeInput .readTimeout s = .next t ∧ remaining t < remaining s)) ∧
  (∀ (es : List Input) (s t : State), Inv s → runInputs es s = .next t → 9 ≤ es.countP progresses →
    ∃ (first rest : List Input) (u : State),
      es = first ++ rest ∧ runInputs first s = .next u ∧ u.phase = .idle) ∧
  (∀ (state : Nat → State) (input : Nat → Input), Inv (state 0) → IsRun state input →
    FairEnv state input → ∀ n, ∃ m, n ≤ m ∧ (state m).phase = .idle) ∧
  ∃ (state : Nat → State) (input : Nat → Input),
    Inv (state 0) ∧ IsRun state input ∧ ∀ n, (state n).phase = .tx

/-! ### Payload layouts (20_memory R57, 43_config_commands R186) -/

/-- R57: the fields of the configuration image tile its 248 bytes, with no gap and no overlap. -/
def Obligations.ImageFieldsTileTheImage : Prop :=
  (∀ f : ImageField, f.offset < 248) ∧
  ∀ o : Fin 248, ∃! f : ImageField, f.offset = o

/-- R186: the whole-image write is 62 SetConfigData commands at addresses 0, 4, .., 244 in ascending order,
and chunk `o / 4` carries image byte `o` as its data byte `o mod 4`. -/
def Obligations.ImageWriteCoversTheImage : Prop :=
  ∀ image : Vector Byte 248,
    (imageWrite image).length = 62 ∧
    ∀ k : Fin 62, ∃ a d0 d1 d2 d3 : Byte,
      (imageWrite image)[k.val]? = some (.setcfg a d0 d1 d2 d3) ∧ a.toNat = 4 * k.val ∧
      d0 = image[4 * k.val] ∧ d1 = image[4 * k.val + 1] ∧
      d2 = image[4 * k.val + 2] ∧ d3 = image[4 * k.val + 3]
end

