-- ==== Sys2Proof/Laws/State.lean ====
section
/-! SUPPORT. One lemma per field of State per named update, true by rfl. -/

namespace Sys2Proof.Machine

/-! ### Fields after completing a command (R142) -/

@[simp] theorem complete_args (code : ResultCode) (s : State) : (complete code s).args = s.args := rfl
@[simp] theorem complete_done (code : ResultCode) (s : State) : (complete code s).done = true := rfl
@[simp] theorem complete_link (code : ResultCode) (s : State) : (complete code s).link = s.link := rfl
@[simp] theorem complete_result (code : ResultCode) (s : State) : (complete code s).result = code := rfl
@[simp] theorem complete_ack (code : ResultCode) (s : State) : (complete code s).ack = s.ack := rfl
@[simp] theorem complete_txf (code : ResultCode) (s : State) : (complete code s).txf = s.txf := rfl
@[simp] theorem complete_resp (code : ResultCode) (s : State) : (complete code s).resp = s.resp := rfl
@[simp] theorem complete_phase (code : ResultCode) (s : State) : (complete code s).phase = .idle := rfl
@[simp] theorem complete_curOp (code : ResultCode) (s : State) : (complete code s).curOp = s.curOp := rfl
@[simp] theorem complete_curUnit (code : ResultCode) (s : State) : (complete code s).curUnit = s.curUnit := rfl
@[simp] theorem complete_curAddr (code : ResultCode) (s : State) : (complete code s).curAddr = s.curAddr := rfl
@[simp] theorem complete_expLen (code : ResultCode) (s : State) : (complete code s).expLen = s.expLen := rfl
@[simp] theorem complete_txIdx (code : ResultCode) (s : State) : (complete code s).txIdx = s.txIdx := rfl
@[simp] theorem complete_rxCount (code : ResultCode) (s : State) : (complete code s).rxCount = s.rxCount := rfl
@[simp] theorem complete_settleTimer (code : ResultCode) (s : State) : (complete code s).settleTimer = .stopped := rfl
@[simp] theorem complete_readTimer (code : ResultCode) (s : State) : (complete code s).readTimer = .stopped := rfl
@[simp] theorem complete_inbox (code : ResultCode) (s : State) : (complete code s).inbox = s.inbox := rfl
@[simp] theorem complete_draws (code : ResultCode) (s : State) : (complete code s).draws = s.draws := rfl
@[simp] theorem complete_host (code : ResultCode) (s : State) : (complete code s).host = s.host := rfl
@[simp] theorem complete_rdata (code : ResultCode) (s : State) : (complete code s).rdata = s.rdata := rfl
@[simp] theorem complete_sent (code : ResultCode) (s : State) : (complete code s).sent = s.sent := rfl

/-! ### Fields after a write of the argument registers (R27) -/

@[simp] theorem setArgs_args (r : ArgRegs) (s : State) : (setArgs r s).args = r := rfl
@[simp] theorem setArgs_done (r : ArgRegs) (s : State) : (setArgs r s).done = s.done := rfl
@[simp] theorem setArgs_link (r : ArgRegs) (s : State) : (setArgs r s).link = s.link := rfl
@[simp] theorem setArgs_result (r : ArgRegs) (s : State) : (setArgs r s).result = s.result := rfl
@[simp] theorem setArgs_ack (r : ArgRegs) (s : State) : (setArgs r s).ack = s.ack := rfl
@[simp] theorem setArgs_txf (r : ArgRegs) (s : State) : (setArgs r s).txf = s.txf := rfl
@[simp] theorem setArgs_resp (r : ArgRegs) (s : State) : (setArgs r s).resp = s.resp := rfl
@[simp] theorem setArgs_phase (r : ArgRegs) (s : State) : (setArgs r s).phase = s.phase := rfl
@[simp] theorem setArgs_curOp (r : ArgRegs) (s : State) : (setArgs r s).curOp = s.curOp := rfl
@[simp] theorem setArgs_curUnit (r : ArgRegs) (s : State) : (setArgs r s).curUnit = s.curUnit := rfl
@[simp] theorem setArgs_curAddr (r : ArgRegs) (s : State) : (setArgs r s).curAddr = s.curAddr := rfl
@[simp] theorem setArgs_expLen (r : ArgRegs) (s : State) : (setArgs r s).expLen = s.expLen := rfl
@[simp] theorem setArgs_txIdx (r : ArgRegs) (s : State) : (setArgs r s).txIdx = s.txIdx := rfl
@[simp] theorem setArgs_rxCount (r : ArgRegs) (s : State) : (setArgs r s).rxCount = s.rxCount := rfl
@[simp] theorem setArgs_settleTimer (r : ArgRegs) (s : State) : (setArgs r s).settleTimer = s.settleTimer := rfl
@[simp] theorem setArgs_readTimer (r : ArgRegs) (s : State) : (setArgs r s).readTimer = s.readTimer := rfl
@[simp] theorem setArgs_inbox (r : ArgRegs) (s : State) : (setArgs r s).inbox = s.inbox := rfl
@[simp] theorem setArgs_draws (r : ArgRegs) (s : State) : (setArgs r s).draws = s.draws := rfl
@[simp] theorem setArgs_host (r : ArgRegs) (s : State) : (setArgs r s).host = s.host := rfl
@[simp] theorem setArgs_rdata (r : ArgRegs) (s : State) : (setArgs r s).rdata = s.rdata := rfl
@[simp] theorem setArgs_sent (r : ArgRegs) (s : State) : (setArgs r s).sent = s.sent := rfl

/-! ### Fields after the frame latch of START (R132) -/

@[simp] theorem latchCommand_args (c : Command) (s : State) : (latchCommand c s).args = s.args := rfl
@[simp] theorem latchCommand_done (c : Command) (s : State) : (latchCommand c s).done = s.done := rfl
@[simp] theorem latchCommand_link (c : Command) (s : State) : (latchCommand c s).link = s.link := rfl
@[simp] theorem latchCommand_result (c : Command) (s : State) : (latchCommand c s).result = s.result := rfl
@[simp] theorem latchCommand_ack (c : Command) (s : State) : (latchCommand c s).ack = 0 := rfl
@[simp] theorem latchCommand_txf (c : Command) (s : State) : (latchCommand c s).txf = requestOf c s.args := rfl
@[simp] theorem latchCommand_resp (c : Command) (s : State) : (latchCommand c s).resp = s.resp := rfl
@[simp] theorem latchCommand_phase (c : Command) (s : State) : (latchCommand c s).phase = s.phase := rfl
@[simp] theorem latchCommand_curOp (c : Command) (s : State) : (latchCommand c s).curOp = s.args.opcode := rfl
@[simp] theorem latchCommand_curUnit (c : Command) (s : State) : (latchCommand c s).curUnit = s.args.unit := rfl
@[simp] theorem latchCommand_curAddr (c : Command) (s : State) : (latchCommand c s).curAddr = s.args.addr := rfl
@[simp] theorem latchCommand_expLen (c : Command) (s : State) : (latchCommand c s).expLen = respLen c := rfl
@[simp] theorem latchCommand_txIdx (c : Command) (s : State) : (latchCommand c s).txIdx = 0 := rfl
@[simp] theorem latchCommand_rxCount (c : Command) (s : State) : (latchCommand c s).rxCount = 0 := rfl
@[simp] theorem latchCommand_settleTimer (c : Command) (s : State) : (latchCommand c s).settleTimer = s.settleTimer := rfl
@[simp] theorem latchCommand_readTimer (c : Command) (s : State) : (latchCommand c s).readTimer = s.readTimer := rfl
@[simp] theorem latchCommand_inbox (c : Command) (s : State) : (latchCommand c s).inbox = s.inbox := rfl
@[simp] theorem latchCommand_draws (c : Command) (s : State) : (latchCommand c s).draws = s.draws := rfl
@[simp] theorem latchCommand_host (c : Command) (s : State) : (latchCommand c s).host = s.host := rfl
@[simp] theorem latchCommand_rdata (c : Command) (s : State) : (latchCommand c s).rdata = s.rdata := rfl
@[simp] theorem latchCommand_sent (c : Command) (s : State) : (latchCommand c s).sent = s.sent := rfl

/-! ### Fields after the capture of a byte (R138) -/

@[simp] theorem storeByte_args (b : Byte) (s : State) (h : s.rxCount < 250) : (storeByte b s h).args = s.args := rfl
@[simp] theorem storeByte_done (b : Byte) (s : State) (h : s.rxCount < 250) : (storeByte b s h).done = s.done := rfl
@[simp] theorem storeByte_link (b : Byte) (s : State) (h : s.rxCount < 250) : (storeByte b s h).link = s.link := rfl
@[simp] theorem storeByte_result (b : Byte) (s : State) (h : s.rxCount < 250) : (storeByte b s h).result = s.result := rfl
@[simp] theorem storeByte_ack (b : Byte) (s : State) (h : s.rxCount < 250) : (storeByte b s h).ack = s.ack := rfl
@[simp] theorem storeByte_txf (b : Byte) (s : State) (h : s.rxCount < 250) : (storeByte b s h).txf = s.txf := rfl
@[simp] theorem storeByte_resp (b : Byte) (s : State) (h : s.rxCount < 250) : (storeByte b s h).resp = s.resp.set s.rxCount b h := rfl
@[simp] theorem storeByte_phase (b : Byte) (s : State) (h : s.rxCount < 250) : (storeByte b s h).phase = s.phase := rfl
@[simp] theorem storeByte_curOp (b : Byte) (s : State) (h : s.rxCount < 250) : (storeByte b s h).curOp = s.curOp := rfl
@[simp] theorem storeByte_curUnit (b : Byte) (s : State) (h : s.rxCount < 250) : (storeByte b s h).curUnit = s.curUnit := rfl
@[simp] theorem storeByte_curAddr (b : Byte) (s : State) (h : s.rxCount < 250) : (storeByte b s h).curAddr = s.curAddr := rfl
@[simp] theorem storeByte_expLen (b : Byte) (s : State) (h : s.rxCount < 250) : (storeByte b s h).expLen = s.expLen := rfl
@[simp] theorem storeByte_txIdx (b : Byte) (s : State) (h : s.rxCount < 250) : (storeByte b s h).txIdx = s.txIdx := rfl
@[simp] theorem storeByte_rxCount (b : Byte) (s : State) (h : s.rxCount < 250) : (storeByte b s h).rxCount = s.rxCount + 1 := rfl
@[simp] theorem storeByte_settleTimer (b : Byte) (s : State) (h : s.rxCount < 250) : (storeByte b s h).settleTimer = s.settleTimer := rfl
@[simp] theorem storeByte_readTimer (b : Byte) (s : State) (h : s.rxCount < 250) : (storeByte b s h).readTimer = s.readTimer := rfl
@[simp] theorem storeByte_inbox (b : Byte) (s : State) (h : s.rxCount < 250) : (storeByte b s h).inbox = s.inbox := rfl
@[simp] theorem storeByte_draws (b : Byte) (s : State) (h : s.rxCount < 250) : (storeByte b s h).draws = s.draws := rfl
@[simp] theorem storeByte_host (b : Byte) (s : State) (h : s.rxCount < 250) : (storeByte b s h).host = s.host := rfl
@[simp] theorem storeByte_rdata (b : Byte) (s : State) (h : s.rxCount < 250) : (storeByte b s h).rdata = s.rdata := rfl
@[simp] theorem storeByte_sent (b : Byte) (s : State) (h : s.rxCount < 250) : (storeByte b s h).sent = s.sent := rfl

/-! ### Fields after `illegal_start` (R131) -/

@[simp] theorem illegalStart_args (s : State) : (illegalStart s).args = s.args := rfl
@[simp] theorem illegalStart_done (s : State) : (illegalStart s).done = true := rfl
@[simp] theorem illegalStart_link (s : State) : (illegalStart s).link = s.link := rfl
@[simp] theorem illegalStart_result (s : State) : (illegalStart s).result = .illegalCommand := rfl
@[simp] theorem illegalStart_ack (s : State) : (illegalStart s).ack = 0 := rfl
@[simp] theorem illegalStart_txf (s : State) : (illegalStart s).txf = s.txf := rfl
@[simp] theorem illegalStart_resp (s : State) : (illegalStart s).resp = s.resp := rfl
@[simp] theorem illegalStart_phase (s : State) : (illegalStart s).phase = s.phase := rfl
@[simp] theorem illegalStart_curOp (s : State) : (illegalStart s).curOp = s.curOp := rfl
@[simp] theorem illegalStart_curUnit (s : State) : (illegalStart s).curUnit = s.curUnit := rfl
@[simp] theorem illegalStart_curAddr (s : State) : (illegalStart s).curAddr = s.curAddr := rfl
@[simp] theorem illegalStart_expLen (s : State) : (illegalStart s).expLen = 0 := rfl
@[simp] theorem illegalStart_txIdx (s : State) : (illegalStart s).txIdx = s.txIdx := rfl
@[simp] theorem illegalStart_rxCount (s : State) : (illegalStart s).rxCount = 0 := rfl
@[simp] theorem illegalStart_settleTimer (s : State) : (illegalStart s).settleTimer = s.settleTimer := rfl
@[simp] theorem illegalStart_readTimer (s : State) : (illegalStart s).readTimer = s.readTimer := rfl
@[simp] theorem illegalStart_inbox (s : State) : (illegalStart s).inbox = s.inbox := rfl
@[simp] theorem illegalStart_draws (s : State) : (illegalStart s).draws = s.draws := rfl
@[simp] theorem illegalStart_host (s : State) : (illegalStart s).host = s.host := rfl
@[simp] theorem illegalStart_rdata (s : State) : (illegalStart s).rdata = s.rdata := rfl
@[simp] theorem illegalStart_sent (s : State) : (illegalStart s).sent = s.sent := rfl

/-! ### Fields after `accept_start` (R132) -/

@[simp] theorem acceptStart_args (c : Command) (s : State) : (acceptStart c s).args = s.args := rfl
@[simp] theorem acceptStart_done (c : Command) (s : State) : (acceptStart c s).done = false := rfl
@[simp] theorem acceptStart_link (c : Command) (s : State) : (acceptStart c s).link = s.link := rfl
@[simp] theorem acceptStart_result (c : Command) (s : State) : (acceptStart c s).result = .ok := rfl
@[simp] theorem acceptStart_ack (c : Command) (s : State) : (acceptStart c s).ack = 0 := rfl
@[simp] theorem acceptStart_txf (c : Command) (s : State) : (acceptStart c s).txf = requestOf c s.args := rfl
@[simp] theorem acceptStart_resp (c : Command) (s : State) : (acceptStart c s).resp = s.resp := rfl
@[simp] theorem acceptStart_phase (c : Command) (s : State) : (acceptStart c s).phase = .tx := rfl
@[simp] theorem acceptStart_curOp (c : Command) (s : State) : (acceptStart c s).curOp = s.args.opcode := rfl
@[simp] theorem acceptStart_curUnit (c : Command) (s : State) : (acceptStart c s).curUnit = s.args.unit := rfl
@[simp] theorem acceptStart_curAddr (c : Command) (s : State) : (acceptStart c s).curAddr = s.args.addr := rfl
@[simp] theorem acceptStart_expLen (c : Command) (s : State) : (acceptStart c s).expLen = respLen c := rfl
@[simp] theorem acceptStart_txIdx (c : Command) (s : State) : (acceptStart c s).txIdx = 0 := rfl
@[simp] theorem acceptStart_rxCount (c : Command) (s : State) : (acceptStart c s).rxCount = 0 := rfl
@[simp] theorem acceptStart_settleTimer (c : Command) (s : State) : (acceptStart c s).settleTimer = s.settleTimer := rfl
@[simp] theorem acceptStart_readTimer (c : Command) (s : State) : (acceptStart c s).readTimer = s.readTimer := rfl
@[simp] theorem acceptStart_inbox (c : Command) (s : State) : (acceptStart c s).inbox = s.inbox := rfl
@[simp] theorem acceptStart_draws (c : Command) (s : State) : (acceptStart c s).draws = s.draws := rfl
@[simp] theorem acceptStart_host (c : Command) (s : State) : (acceptStart c s).host = s.host := rfl
@[simp] theorem acceptStart_rdata (c : Command) (s : State) : (acceptStart c s).rdata = s.rdata := rfl
@[simp] theorem acceptStart_sent (c : Command) (s : State) : (acceptStart c s).sent = s.sent := rfl

/-! ### Fields after `link_down_start` (R133) -/

@[simp] theorem linkDownStart_args (c : Command) (s : State) : (linkDownStart c s).args = s.args := rfl
@[simp] theorem linkDownStart_done (c : Command) (s : State) : (linkDownStart c s).done = true := rfl
@[simp] theorem linkDownStart_link (c : Command) (s : State) : (linkDownStart c s).link = s.link := rfl
@[simp] theorem linkDownStart_result (c : Command) (s : State) : (linkDownStart c s).result = .transportError := rfl
@[simp] theorem linkDownStart_ack (c : Command) (s : State) : (linkDownStart c s).ack = 0 := rfl
@[simp] theorem linkDownStart_txf (c : Command) (s : State) : (linkDownStart c s).txf = requestOf c s.args := rfl
@[simp] theorem linkDownStart_resp (c : Command) (s : State) : (linkDownStart c s).resp = s.resp := rfl
@[simp] theorem linkDownStart_phase (c : Command) (s : State) : (linkDownStart c s).phase = s.phase := rfl
@[simp] theorem linkDownStart_curOp (c : Command) (s : State) : (linkDownStart c s).curOp = s.args.opcode := rfl
@[simp] theorem linkDownStart_curUnit (c : Command) (s : State) : (linkDownStart c s).curUnit = s.args.unit := rfl
@[simp] theorem linkDownStart_curAddr (c : Command) (s : State) : (linkDownStart c s).curAddr = s.args.addr := rfl
@[simp] theorem linkDownStart_expLen (c : Command) (s : State) : (linkDownStart c s).expLen = respLen c := rfl
@[simp] theorem linkDownStart_txIdx (c : Command) (s : State) : (linkDownStart c s).txIdx = 0 := rfl
@[simp] theorem linkDownStart_rxCount (c : Command) (s : State) : (linkDownStart c s).rxCount = 0 := rfl
@[simp] theorem linkDownStart_settleTimer (c : Command) (s : State) : (linkDownStart c s).settleTimer = s.settleTimer := rfl
@[simp] theorem linkDownStart_readTimer (c : Command) (s : State) : (linkDownStart c s).readTimer = s.readTimer := rfl
@[simp] theorem linkDownStart_inbox (c : Command) (s : State) : (linkDownStart c s).inbox = s.inbox := rfl
@[simp] theorem linkDownStart_draws (c : Command) (s : State) : (linkDownStart c s).draws = s.draws := rfl
@[simp] theorem linkDownStart_host (c : Command) (s : State) : (linkDownStart c s).host = s.host := rfl
@[simp] theorem linkDownStart_rdata (c : Command) (s : State) : (linkDownStart c s).rdata = s.rdata := rfl
@[simp] theorem linkDownStart_sent (c : Command) (s : State) : (linkDownStart c s).sent = s.sent := rfl

/-! ### Fields after a change of the link level (R143) -/

@[simp] theorem linkReady_args (up : Bool) (s : State) : (linkReady up s).args = s.args := rfl
@[simp] theorem linkReady_done (up : Bool) (s : State) : (linkReady up s).done = s.done := rfl
@[simp] theorem linkReady_link (up : Bool) (s : State) : (linkReady up s).link = up := rfl
@[simp] theorem linkReady_result (up : Bool) (s : State) : (linkReady up s).result = s.result := rfl
@[simp] theorem linkReady_ack (up : Bool) (s : State) : (linkReady up s).ack = s.ack := rfl
@[simp] theorem linkReady_txf (up : Bool) (s : State) : (linkReady up s).txf = s.txf := rfl
@[simp] theorem linkReady_resp (up : Bool) (s : State) : (linkReady up s).resp = s.resp := rfl
@[simp] theorem linkReady_phase (up : Bool) (s : State) : (linkReady up s).phase = s.phase := rfl
@[simp] theorem linkReady_curOp (up : Bool) (s : State) : (linkReady up s).curOp = s.curOp := rfl
@[simp] theorem linkReady_curUnit (up : Bool) (s : State) : (linkReady up s).curUnit = s.curUnit := rfl
@[simp] theorem linkReady_curAddr (up : Bool) (s : State) : (linkReady up s).curAddr = s.curAddr := rfl
@[simp] theorem linkReady_expLen (up : Bool) (s : State) : (linkReady up s).expLen = s.expLen := rfl
@[simp] theorem linkReady_txIdx (up : Bool) (s : State) : (linkReady up s).txIdx = s.txIdx := rfl
@[simp] theorem linkReady_rxCount (up : Bool) (s : State) : (linkReady up s).rxCount = s.rxCount := rfl
@[simp] theorem linkReady_settleTimer (up : Bool) (s : State) : (linkReady up s).settleTimer = s.settleTimer := rfl
@[simp] theorem linkReady_readTimer (up : Bool) (s : State) : (linkReady up s).readTimer = s.readTimer := rfl
@[simp] theorem linkReady_inbox (up : Bool) (s : State) : (linkReady up s).inbox = s.inbox := rfl
@[simp] theorem linkReady_draws (up : Bool) (s : State) : (linkReady up s).draws = s.draws := rfl
@[simp] theorem linkReady_host (up : Bool) (s : State) : (linkReady up s).host = s.host := rfl
@[simp] theorem linkReady_rdata (up : Bool) (s : State) : (linkReady up s).rdata = s.rdata := rfl
@[simp] theorem linkReady_sent (up : Bool) (s : State) : (linkReady up s).sent = s.sent := rfl

/-! ### Fields after a host read (R51) -/

@[simp] theorem hostRead_args (a : HostAddr) (s : State) : (hostRead a s).args = s.args := rfl
@[simp] theorem hostRead_done (a : HostAddr) (s : State) : (hostRead a s).done = s.done := rfl
@[simp] theorem hostRead_link (a : HostAddr) (s : State) : (hostRead a s).link = s.link := rfl
@[simp] theorem hostRead_result (a : HostAddr) (s : State) : (hostRead a s).result = s.result := rfl
@[simp] theorem hostRead_ack (a : HostAddr) (s : State) : (hostRead a s).ack = s.ack := rfl
@[simp] theorem hostRead_txf (a : HostAddr) (s : State) : (hostRead a s).txf = s.txf := rfl
@[simp] theorem hostRead_resp (a : HostAddr) (s : State) : (hostRead a s).resp = s.resp := rfl
@[simp] theorem hostRead_phase (a : HostAddr) (s : State) : (hostRead a s).phase = s.phase := rfl
@[simp] theorem hostRead_curOp (a : HostAddr) (s : State) : (hostRead a s).curOp = s.curOp := rfl
@[simp] theorem hostRead_curUnit (a : HostAddr) (s : State) : (hostRead a s).curUnit = s.curUnit := rfl
@[simp] theorem hostRead_curAddr (a : HostAddr) (s : State) : (hostRead a s).curAddr = s.curAddr := rfl
@[simp] theorem hostRead_expLen (a : HostAddr) (s : State) : (hostRead a s).expLen = s.expLen := rfl
@[simp] theorem hostRead_txIdx (a : HostAddr) (s : State) : (hostRead a s).txIdx = s.txIdx := rfl
@[simp] theorem hostRead_rxCount (a : HostAddr) (s : State) : (hostRead a s).rxCount = s.rxCount := rfl
@[simp] theorem hostRead_settleTimer (a : HostAddr) (s : State) : (hostRead a s).settleTimer = s.settleTimer := rfl
@[simp] theorem hostRead_readTimer (a : HostAddr) (s : State) : (hostRead a s).readTimer = s.readTimer := rfl
@[simp] theorem hostRead_inbox (a : HostAddr) (s : State) : (hostRead a s).inbox = s.inbox := rfl
@[simp] theorem hostRead_draws (a : HostAddr) (s : State) : (hostRead a s).draws = s.draws := rfl
@[simp] theorem hostRead_host (a : HostAddr) (s : State) : (hostRead a s).host = s.host := rfl
@[simp] theorem hostRead_rdata (a : HostAddr) (s : State) : (hostRead a s).rdata = readAt a s := rfl
@[simp] theorem hostRead_sent (a : HostAddr) (s : State) : (hostRead a s).sent = s.sent := rfl

/-! ### Fields after one turn of `WAITDONE` (R92) -/

@[simp] theorem waitDone_args (s : State) : (waitDone s).args = s.args := rfl
@[simp] theorem waitDone_done (s : State) : (waitDone s).done = s.done := rfl
@[simp] theorem waitDone_link (s : State) : (waitDone s).link = s.link := rfl
@[simp] theorem waitDone_result (s : State) : (waitDone s).result = s.result := rfl
@[simp] theorem waitDone_ack (s : State) : (waitDone s).ack = s.ack := rfl
@[simp] theorem waitDone_txf (s : State) : (waitDone s).txf = s.txf := rfl
@[simp] theorem waitDone_resp (s : State) : (waitDone s).resp = s.resp := rfl
@[simp] theorem waitDone_phase (s : State) : (waitDone s).phase = s.phase := rfl
@[simp] theorem waitDone_curOp (s : State) : (waitDone s).curOp = s.curOp := rfl
@[simp] theorem waitDone_curUnit (s : State) : (waitDone s).curUnit = s.curUnit := rfl
@[simp] theorem waitDone_curAddr (s : State) : (waitDone s).curAddr = s.curAddr := rfl
@[simp] theorem waitDone_expLen (s : State) : (waitDone s).expLen = s.expLen := rfl
@[simp] theorem waitDone_txIdx (s : State) : (waitDone s).txIdx = s.txIdx := rfl
@[simp] theorem waitDone_rxCount (s : State) : (waitDone s).rxCount = s.rxCount := rfl
@[simp] theorem waitDone_settleTimer (s : State) : (waitDone s).settleTimer = s.settleTimer := rfl
@[simp] theorem waitDone_readTimer (s : State) : (waitDone s).readTimer = s.readTimer := rfl
@[simp] theorem waitDone_inbox (s : State) : (waitDone s).inbox = s.inbox := rfl
@[simp] theorem waitDone_draws (s : State) : (waitDone s).draws = s.draws := rfl
@[simp] theorem waitDone_host (s : State) : (waitDone s).host = if doneBit (statusByte s) then .ready else .waiting := rfl
@[simp] theorem waitDone_rdata (s : State) : (waitDone s).rdata = readAt aSTATUS s := rfl
@[simp] theorem waitDone_sent (s : State) : (waitDone s).sent = s.sent := rfl

/-! ### Fields after the reset event (R230) -/

@[simp] theorem resetBlock_args (s : State) : (resetBlock s).args = ArgRegs.zero := rfl
@[simp] theorem resetBlock_done (s : State) : (resetBlock s).done = false := rfl
@[simp] theorem resetBlock_link (s : State) : (resetBlock s).link = s.link := rfl
@[simp] theorem resetBlock_result (s : State) : (resetBlock s).result = .ok := rfl
@[simp] theorem resetBlock_ack (s : State) : (resetBlock s).ack = 0 := rfl
@[simp] theorem resetBlock_txf (s : State) : (resetBlock s).txf = Vector.replicate 7 0 := rfl
@[simp] theorem resetBlock_resp (s : State) : (resetBlock s).resp = drawResp s.draws := rfl
@[simp] theorem resetBlock_phase (s : State) : (resetBlock s).phase = .idle := rfl
@[simp] theorem resetBlock_curOp (s : State) : (resetBlock s).curOp = 0 := rfl
@[simp] theorem resetBlock_curUnit (s : State) : (resetBlock s).curUnit = 0 := rfl
@[simp] theorem resetBlock_curAddr (s : State) : (resetBlock s).curAddr = 0 := rfl
@[simp] theorem resetBlock_expLen (s : State) : (resetBlock s).expLen = 0 := rfl
@[simp] theorem resetBlock_txIdx (s : State) : (resetBlock s).txIdx = 0 := rfl
@[simp] theorem resetBlock_rxCount (s : State) : (resetBlock s).rxCount = 0 := rfl
@[simp] theorem resetBlock_settleTimer (s : State) : (resetBlock s).settleTimer = .stopped := rfl
@[simp] theorem resetBlock_readTimer (s : State) : (resetBlock s).readTimer = .stopped := rfl
@[simp] theorem resetBlock_inbox (s : State) : (resetBlock s).inbox = s.inbox := rfl
@[simp] theorem resetBlock_draws (s : State) : (resetBlock s).draws = s.draws + 1 := rfl
@[simp] theorem resetBlock_host (s : State) : (resetBlock s).host = s.host := rfl
@[simp] theorem resetBlock_rdata (s : State) : (resetBlock s).rdata = s.rdata := rfl
@[simp] theorem resetBlock_sent (s : State) : (resetBlock s).sent = s.sent := rfl

/-- The last write of the argument registers counts. -/
@[simp] theorem setArgs_setArgs (r q : ArgRegs) (s : State) : setArgs r (setArgs q s) = setArgs r s := rfl

end Sys2Proof.Machine
end

