-- ==== Sys2Proof/Laws/Codec.lean ====
section
/-! SUPPORT. Lemmas about the codec: sums, checksums, the command table, frames and validation. -/

namespace Sys2Proof.Machine

/-! ### Sums and complements -/

@[simp] theorem byteSum_nil : byteSum [] = 0 := rfl

@[simp] theorem byteSum_cons (b : Byte) (s : List Byte) : byteSum (b :: s) = b.toNat + byteSum s := by
  simp [byteSum]

@[simp] theorem byteSum_append (s t : List Byte) : byteSum (s ++ t) = byteSum s + byteSum t := by
  simp [byteSum]

/-- `~b = 255 - b` (R10, R112). -/
theorem not8_toNat (b : Byte) : (not8 b).toNat = 255 - b.toNat := by
  revert b
  decide +kernel

theorem not8_not8 (b : Byte) : not8 (not8 b) = b := by
  simp [not8]

/-- `csum` as a number, `255 - (sum mod 256)` (R110). -/
theorem csum_toNat (s : List Byte) : (csum s).toNat = 255 - byteSum s % 256 := by
  have h := not8_toNat (BitVec.ofNat 8 (byteSum s % 256))
  simpa [csum, not8] using h

/-! ### The command table -/

theorem commandOf_opcodeOf (c : Command) : commandOf (opcodeOf c) = some c := by
  cases c <;> decide

/-- The table is one-to-one: a command is named by its own opcode only (R84, R85). -/
theorem commandOf_eq_some {op : Byte} {c : Command} : commandOf op = some c ↔ op = opcodeOf c := by
  constructor
  · intro h
    unfold commandOf at h
    split_ifs at h <;> simp_all [opcodeOf]
    all_goals (subst h; rfl)
  · rintro rfl
    exact commandOf_opcodeOf c

theorem respLen_pos (c : Command) : 4 ≤ respLen c := by
  cases c <;> decide

theorem respLen_le (c : Command) : respLen c ≤ 250 := by
  cases c <;> decide

theorem respLen_mem (c : Command) : respLen c ∈ [0, 4, 6, 15, 20, 250] := by
  cases c <;> decide

/-! ### Frames -/

theorem buildRequest_toList (op : Byte) (f : Vector Byte 5) :
    (buildRequest op f).toList =
      [op, f[0], f[1], f[2], f[3], f[4], csum [op, f[0], f[1], f[2], f[3], f[4]]] := rfl

@[simp] theorem requestOf_zero (c : Command) (r : ArgRegs) : (requestOf c r)[0] = r.opcode := rfl

@[simp] theorem buildRequest_length (op : Byte) (f : Vector Byte 5) :
    (buildRequest op f).toList.length = 7 := rfl

/-! ### Validation -/

/-- What `validate_response` answers for a domain length, by the first check that fails (R116). -/
theorem validateResponse_cases {op : Byte} {raw : List Byte} {n : Nat} (hn : n ≠ 0) :
    (raw.length ≠ n ∧ validateResponse op raw n = some (.lengthMismatch raw.length)) ∨
    (raw.length = n ∧ csum (raw.take (n - 1)) ≠ raw.getD (n - 1) 0 ∧
      validateResponse op raw n = some (.checksumMismatch (raw.getD (n - 1) 0))) ∨
    (raw.length = n ∧ csum (raw.take (n - 1)) = raw.getD (n - 1) 0 ∧ raw.getD 0 0 ≠ op ∧
      validateResponse op raw n = some (.opcodeMismatch (raw.getD 0 0))) ∨
    (raw.length = n ∧ csum (raw.take (n - 1)) = raw.getD (n - 1) 0 ∧ raw.getD 0 0 = op ∧
      validateResponse op raw n = some (.ok raw)) := by
  unfold validateResponse
  by_cases h1 : raw.length = n
  · by_cases h2 : csum (raw.take (n - 1)) = raw.getD (n - 1) 0
    · by_cases h3 : raw.getD 0 0 = op <;> simp_all
    · exact .inr (.inl ⟨h1, h2, by simp only [hn, if_false, h1, ne_eq, not_true, h2, not_false_iff, if_true]⟩)
  · exact .inl ⟨h1, by simp [hn, h1]⟩

theorem validateResponse_short {op : Byte} {raw : List Byte} {n : Nat} (h : raw.length < n) :
    validateResponse op raw n = some (.lengthMismatch raw.length) := by
  have h0 : n ≠ 0 := by omega
  have h1 : raw.length ≠ n := by omega
  simp [validateResponse, h0, h1]

end Sys2Proof.Machine
end

