-- ==== Sys2Proof/Laws/Layout.lean ====
section
/-! SUPPORT. Reading and writing back the values of the configuration image undo each other (20_memory R58). -/

namespace Sys2Proof.Machine

theorem correctionValue_range (b : Byte) : -128 ≤ correctionValue b ∧ correctionValue b ≤ 127 := by
  have h := b.isLt
  unfold correctionValue
  split <;> omega

/-- The byte written back, as a number: `v < 0 → v + 256` for every signed byte `v` (R58). -/
theorem correctionByte_toNat {v : Int} (h : -128 ≤ v) (h' : v ≤ 127) :
    ((correctionByte v).toNat : Int) = if v < 0 then v + 256 else v := by
  unfold correctionByte
  rw [BitVec.toNat_ofInt]
  split <;> omega

theorem correctionByte_correctionValue (b : Byte) : correctionByte (correctionValue b) = b := by
  revert b
  decide +kernel

theorem correctionValue_correctionByte {v : Int} (h : -128 ≤ v) (h' : v ≤ 127) :
    correctionValue (correctionByte v) = v := by
  have hb := correctionByte_toNat h h'
  unfold correctionValue
  split at hb <;> split <;> omega

theorem floatBits_floatBytes (w : BitVec 32) :
    floatBits (floatBytes w)[0] (floatBytes w)[1] (floatBytes w)[2] (floatBytes w)[3] = w := by
  apply BitVec.eq_of_getLsbD_eq
  intro k hk
  have h := BitVec.getLsbD_append (x := (floatBytes w)[3] ++ (floatBytes w)[2] ++ (floatBytes w)[1])
    (y := (floatBytes w)[0]) (i := k)
  refine h.trans ?_
  simp only [BitVec.getLsbD_append, floatBytes, Vector.getElem_mk, List.getElem_toArray,
    List.getElem_cons_zero, List.getElem_cons_succ, BitVec.getLsbD_extractLsb']
  split_ifs <;> grind

end Sys2Proof.Machine
end

