-- ==== Sys2Proof/Laws/Ops.lean ====
section
/-! SUPPORT. One lemma per shared operation that says everything it can do; later proofs cite these and
do not unfold the operation. -/

namespace Sys2Proof.Machine

/-! ### Flags -/

@[simp] theorem busy_eq_false {s : State} : s.busy = false ↔ s.phase = .idle := by simp [State.busy]

@[simp] theorem statusByte_setArgs (r : ArgRegs) (s : State) : statusByte (setArgs r s) = statusByte s := rfl

@[simp] theorem doneBit_statusByte (s : State) : doneBit (statusByte s) = s.done := by
  unfold doneBit statusByte
  rcases s.busy <;> rcases s.done <;> rcases s.link <;> rfl

@[simp] theorem captures_iff {s : State} :
    captures s = true ↔ (s.phase = .settle ∨ s.phase = .read) ∧ s.rxCount < s.expLen := by
  simp [captures]

@[simp] theorem captured_length (s : State) : (captured s).length = min s.rxCount 250 := by
  simp [captured]

/-- After a capture the captured bytes are those before and the new one (R138). -/
theorem captured_storeByte (b : Byte) (s : State) (h : s.rxCount < 250) :
    captured (storeByte b s h) = captured s ++ [b] := by
  have hl : s.rxCount < (s.resp.toList.set s.rxCount b).length := by simpa using h
  simp only [captured, storeByte_resp, storeByte_rxCount, Vector.toList_set]
  rw [List.take_add_one, List.take_set_of_le (Nat.le_refl _)]
  simp [h]

/-! ### The register map -/

@[simp] theorem regAt_OPCODE : regAt aOPCODE = .opcode := by decide
@[simp] theorem regAt_UNIT : regAt aUNIT = .unit := by decide
@[simp] theorem regAt_POS_LO : regAt aPOS_LO = .posLo := by decide
@[simp] theorem regAt_POS_HI : regAt aPOS_HI = .posHi := by decide
@[simp] theorem regAt_ADDR : regAt aADDR = .addr := by decide
@[simp] theorem regAt_DATA0 : regAt aDATA0 = .data0 := by decide
@[simp] theorem regAt_DATA1 : regAt aDATA1 = .data1 := by decide
@[simp] theorem regAt_DATA2 : regAt aDATA2 = .data2 := by decide
@[simp] theorem regAt_DATA3 : regAt aDATA3 = .data3 := by decide
@[simp] theorem regAt_CTRL : regAt aCTRL = .ctrl := by decide
@[simp] theorem regAt_STATUS : regAt aSTATUS = .status := by decide
@[simp] theorem regAt_RESULT : regAt aRESULT = .result := by decide
@[simp] theorem regAt_ACK : regAt aACK = .ack := by decide
@[simp] theorem regAt_RESP_LEN : regAt aRESP_LEN = .respLen := by decide
@[simp] theorem regAt_EXP_LEN : regAt aEXP_LEN = .expLen := by decide

@[simp] theorem startBit_one : startBit 1#8 = true := by decide

@[simp] theorem readAt_STATUS (s : State) : readAt aSTATUS s = statusByte s := by
  simp [readAt, readReg]

/-! ### START, write, read -/

/-- Everything a START request can do (R130). -/
theorem start_cases (s : State) :
    (s.phase ≠ .idle ∧ start s = s) ∨
    (s.phase = .idle ∧ commandOf s.args.opcode = none ∧ start s = illegalStart s) ∨
    (s.phase = .idle ∧ s.link = true ∧
      ∃ c, commandOf s.args.opcode = some c ∧ start s = acceptStart c s) ∨
    (s.phase = .idle ∧ s.link = false ∧
      ∃ c, commandOf s.args.opcode = some c ∧ start s = linkDownStart c s) := by
  unfold start
  by_cases h : s.phase = .idle
  · cases hc : commandOf s.args.opcode with
    | none => simp [h]
    | some c => cases hl : s.link <;> simp [h]
  · simp [h]

/-- No START changes an argument register (R27). -/
@[simp] theorem start_args (s : State) : (start s).args = s.args := by
  rcases start_cases s with ⟨-, e⟩ | ⟨-, -, e⟩ | ⟨-, -, c, -, e⟩ | ⟨-, -, c, -, e⟩ <;> simp [e]

/-- No START changes a byte of RESP (R35). -/
@[simp] theorem start_resp (s : State) : (start s).resp = s.resp := by
  rcases start_cases s with ⟨-, e⟩ | ⟨-, -, e⟩ | ⟨-, -, c, -, e⟩ | ⟨-, -, c, -, e⟩ <;> simp [e]

/-- No START changes what is outside the command: the link, the timers, the wire, the model's own
fields. -/
theorem start_outside (s : State) :
    (start s).link = s.link ∧ (start s).settleTimer = s.settleTimer ∧
    (start s).readTimer = s.readTimer ∧ (start s).sent = s.sent ∧ (start s).inbox = s.inbox ∧
    (start s).draws = s.draws ∧ (start s).host = s.host ∧ (start s).rdata = s.rdata := by
  rcases start_cases s with ⟨-, e⟩ | ⟨-, -, e⟩ | ⟨-, -, c, -, e⟩ | ⟨-, -, c, -, e⟩ <;> simp [e]

theorem start_busy {s : State} (h : s.phase ≠ .idle) : start s = s := by simp [start, h]

theorem start_accept {s : State} {c : Command} (h : s.phase = .idle) (hl : s.link = true)
    (hc : commandOf s.args.opcode = some c) : start s = acceptStart c s := by
  simp [start, h, hl, hc]

theorem start_linkDown {s : State} {c : Command} (h : s.phase = .idle) (hl : s.link = false)
    (hc : commandOf s.args.opcode = some c) : start s = linkDownStart c s := by
  simp [start, h, hl, hc]

/-- Everything a host write can do: an argument register, a START, or nothing (R51). -/
theorem hostWrite_cases (a : HostAddr) (v : Byte) (s : State) :
    (∃ r, hostWrite a v s = setArgs r s) ∨
    (regAt a = .ctrl ∧ startBit v = true ∧ hostWrite a v s = start s) ∨
    hostWrite a v s = s := by
  unfold hostWrite
  cases h : regAt a <;> simp only [writeReg] <;> first
    | exact .inl ⟨_, rfl⟩
    | exact .inr (.inr rfl)
    | (split
       · exact .inr (.inl ⟨trivial, ‹_›, rfl⟩)
       · exact .inr (.inr rfl))

/-! ### Completion and the dispatcher's events -/

/-- Everything `finish` can do (R142): a refusal for a zero length, a fault for an unknown `cur_op`,
or a completion that changes RESULT, ACK, DONE, phase and the timers only. -/
theorem finish_next {raw : List Byte} {s t : State} (h : finish raw s = .next t) :
    ∃ code ack, t = complete code { s with ack := ack } := by
  unfold finish at h
  split at h
  · cases h
  · cases h; exact ⟨_, s.ack, rfl⟩
  · cases h; exact ⟨_, s.ack, rfl⟩
  · cases h; exact ⟨_, s.ack, rfl⟩
  · split at h
    · cases h
    · cases h; exact ⟨_, _, rfl⟩

/-- With a legal `cur_op` and a length in the domain, `finish` completes (R120, R142). -/
theorem finish_completes {raw : List Byte} {s : State} {c : Command}
    (hc : commandOf s.curOp = some c) (hn : s.expLen ≠ 0) :
    ∃ t, finish raw s = .next t := by
  unfold finish
  rcases validateResponse_cases (op := s.curOp) (raw := raw) hn with h | h | h | h
  · rw [h.2]; exact ⟨_, rfl⟩
  · rw [h.2.2]; exact ⟨_, rfl⟩
  · rw [h.2.2.2]; exact ⟨_, rfl⟩
  · rw [h.2.2.2]; simp [hc]

theorem finish_short {raw : List Byte} {s : State} (h : raw.length < s.expLen) :
    finish raw s = .next (complete .lengthMismatch s) := by
  simp [finish, validateResponse_short h]

/-- Everything `tx_accept` can do (R134). -/
theorem txAccept_next {s t : State} (h : txAccept s = .next t) :
    s.phase = .tx ∧ ∃ hi : s.txIdx < 7,
      (s.txIdx = 6 ∧ t = { s with
        sent := s.sent ++ [s.txf[s.txIdx]], txIdx := 7, phase := .settle,
        settleTimer := .running (Config.settleDelay s.curOp) }) ∨
      (s.txIdx < 6 ∧ t = { s with sent := s.sent ++ [s.txf[s.txIdx]], txIdx := s.txIdx + 1 }) := by
  unfold txAccept at h
  split_ifs at h with hp hi h6
  · cases h; exact ⟨hp, hi, .inl ⟨h6, rfl⟩⟩
  · cases h; exact ⟨hp, hi, .inr ⟨by omega, rfl⟩⟩

/-- Everything `settle_expire` can do (R137). -/
theorem settleExpire_next {s t : State} (h : settleExpire s = .next t) :
    s.phase = .settle ∧
      ((s.rxCount = s.expLen ∧ finish (captured s) s = .next t) ∨
       (s.rxCount ≠ s.expLen ∧ t = { s with
          phase := .read, settleTimer := .stopped, readTimer := .running Config.readTimeout })) := by
  unfold settleExpire at h
  split_ifs at h with hp hr
  · exact ⟨hp, .inl ⟨hr, h⟩⟩
  · cases h; exact ⟨hp, .inr ⟨hr, rfl⟩⟩

/-- Everything `rx_byte` can do (R138, R139). -/
theorem rxByte_next {b : Byte} {s t : State} (h : rxByte b s = .next t) :
    (captures s = false ∧ t = s) ∨
    (captures s = true ∧ ∃ hk : s.rxCount < 250,
      (s.phase = .read ∧ s.rxCount + 1 = s.expLen ∧
        finish (captured s ++ [b]) (storeByte b s hk) = .next t) ∨
      (¬ (s.phase = .read ∧ s.rxCount + 1 = s.expLen) ∧ t = storeByte b s hk)) := by
  unfold rxByte at h
  split_ifs at h with hc hk hf
  · exact .inr ⟨hc, hk, .inl ⟨hf.1, hf.2, h⟩⟩
  · cases h; exact .inr ⟨hc, hk, .inr ⟨hf, rfl⟩⟩
  · cases h; exact .inl ⟨Bool.not_eq_true _ ▸ hc, rfl⟩

/-- Everything `read_timeout` can do (R140). -/
theorem readTimeout_next {s t : State} (h : readTimeout s = .next t) :
    s.phase = .read ∧ s.rxCount < s.expLen ∧ finish (captured s) s = .next t := by
  unfold readTimeout at h
  split_ifs at h with hp
  exact ⟨hp.1, hp.2, h⟩

/-- Everything `t_err` can do (R141). -/
theorem tErr_cases (s : State) :
    (s.phase = .idle ∧ tErr s = s) ∨ (s.phase ≠ .idle ∧ tErr s = complete .transportError s) := by
  unfold tErr
  by_cases h : s.phase = .idle <;> simp [h]

/-! ### Instructions -/

@[simp] theorem runHostOps_nil (s : State) : runHostOps [] s = s := rfl

@[simp] theorem runHostOps_cons (op : HostOp) (ops : List HostOp) (s : State) :
    runHostOps (op :: ops) s = runHostOps ops (runHostOp op s) := rfl

/-- Every instruction writes its registers, requests a START and enters `WAITDONE` (R93). -/
theorem exec_eq (i : Instr) (s : State) :
    exec i s = .next (waitDone (start (setArgs (argsAfter i s.args) s))) := by
  cases i <;>
    simp [exec, execInit, execGstat, execGpos, execStop, execGoto, execSetcfg, execGetcfg, runHostOp,
      hostWrite, writeReg, argsAfter]

/-- The opcode an instruction writes names its command (R84, R93). -/
@[simp] theorem commandOf_argsAfter (i : Instr) (r : ArgRegs) :
    commandOf (argsAfter i r).opcode = some i.command := by
  cases i <;> rfl

/-- The frame START builds after an instruction's writes is the instruction's encoding (R82, R83). -/
theorem requestOf_argsAfter (i : Instr) (r : ArgRegs) :
    (requestOf i.command (argsAfter i r)).toList = encode i := by
  cases i <;> rfl

/-! ### Inputs and steps -/

/-- Everything a request input can do: run the instruction its frame decodes to (R85, R93). -/
theorem takeInput_request_next {frame : List Byte} {s t : State}
    (h : takeInput (.request frame) s = .next t) : ∃ i, decode frame = .ok i ∧ exec i s = .next t := by
  simp only [takeInput] at h
  split at h
  · cases h
  · exact ⟨_, ‹_›, h⟩

/-- A host access is performed in every state (R144, R209). -/
@[simp] theorem takeInput_host (op : HostOp) (s : State) :
    takeInput (.host op) s = .next (runHostOp op s) := rfl

@[simp] theorem nextInput_cons {s : State} {e : Input} {es : List Input} (h : s.inbox = e :: es) :
    nextInput s = (e, { s with inbox := es }) := by
  simp [nextInput, h]

/-- A step takes the head of the inbox (R65). -/
theorem step_cons {s : State} {e : Input} {es : List Input} (h : s.inbox = e :: es) :
    step s = takeInput e { s with inbox := es } := by
  simp [step, nextInput_cons h]

/-- What taking the next input changes before its rule runs: the model's own fields only. -/
theorem nextInput_state (s : State) :
    ∃ inbox draws, (nextInput s).2 = { s with inbox := inbox, draws := draws } := by
  unfold nextInput
  split
  · exact ⟨_, s.draws, rfl⟩
  · exact ⟨s.inbox, _, rfl⟩

end Sys2Proof.Machine
end

