-- ==== Sys2Proof/Laws/PerInstr.lean ====
section
/-! SUPPORT. Statements made per instruction: the shape of every request frame (30_encoding R80, R84). -/

namespace Sys2Proof.Laws.FrameShape

open Sys2Proof.Machine

/-- The frame is 7 bytes, byte 0 is the opcode of the instruction's command, and byte 6 is the checksum
of the six bytes before it (R80). -/
def Statement (i : Instr) : Prop :=
  (encode i).length = 7 ∧ (encode i).getD 0 0 = opcodeOf i.command ∧
    (encode i).getD 6 0 = csum ((encode i).take 6)

theorem init (u : Byte) : Statement (.init u) := ⟨rfl, rfl, rfl⟩
theorem gstat : Statement .gstat := ⟨rfl, rfl, rfl⟩
theorem gpos : Statement .gpos := ⟨rfl, rfl, rfl⟩
theorem stop (u : Byte) : Statement (.stop u) := ⟨rfl, rfl, rfl⟩
theorem goto (u : Byte) (pos : Nat) : Statement (.goto u pos) := ⟨rfl, rfl, rfl⟩
theorem setcfg (a d0 d1 d2 d3 : Byte) : Statement (.setcfg a d0 d1 d2 d3) := ⟨rfl, rfl, rfl⟩
theorem getcfg : Statement .getcfg := ⟨rfl, rfl, rfl⟩

end Sys2Proof.Laws.FrameShape
end

