-- ==== Sys2Proof/Tests/Slice0.lean ====
section
/-! SUPPORT. Tests. Expected values come from spec/95_test_vectors.md (V1 to V6, X2, E1 to E18), from the
layouts of spec/30_encoding.md and from spec/opcode_table.json. The `witness_…` theorems show states and
operands that meet the hypotheses of the obligation they are named after. -/

namespace Sys2Proof.Tests

open Sys2Proof Sys2Proof.Machine

/-! ### Small states -/

/-- A field of the next state, where there is one. -/
def nextField {α : Type} (f : State → α) : Host.Outcome State Fault Refusal → Option α
  | .next t => some (f t)
  | .fault _ => none
  | .refused _ => none

/-- After reset, with the link down. -/
def linkDown : State := { State.reset with link := false }

/-- Init for unit 1 accepted, no byte taken yet (E4 with X2's frame). -/
def inTx : State :=
  accepted State.reset { ArgRegs.zero with opcode := 0xAA#8, unit := 1#8 }
    #v[0xAA#8, 0x01#8, 0x55#8, 0xFE#8, 0x55#8, 0xFE#8, 0xAE#8] 4

/-- The same with six bytes taken. -/
def inTxLast : State :=
  { inTx with txIdx := 6, sent := [0xAA#8, 0x01#8, 0x55#8, 0xFE#8, 0x55#8, 0xFE#8] }

/-- The same in the settle delay (E7). -/
def inSettle : State :=
  { inTx with
    phase := .settle, txIdx := 7, settleTimer := .running (Config.settleDelay 0xAA#8)
    sent := [0xAA#8, 0x01#8, 0x55#8, 0xFE#8, 0x55#8, 0xFE#8, 0xAE#8] }

/-- The receive buffer with `AA 00 00 55` in it. -/
def replyBuffer : Vector Byte 250 :=
  (((Vector.replicate 250 0#8).set 0 0xAA#8).set 1 0#8).set 3 0x55#8

/-- The same with the whole reply captured in the settle delay (E9). -/
def settleFull : State := { inSettle with resp := replyBuffer, rxCount := 4 }

/-- The same in the read with three of four bytes captured (E10), the last byte coming next. -/
def inRead : State :=
  { inSettle with
    phase := .read, settleTimer := .stopped, readTimer := .running Config.readTimeout
    resp := replyBuffer, rxCount := 3, inbox := [.rxByte 0x55#8] }

/-- A command in the settle delay with the latches of `op`, `u` and `a`, expecting `n` bytes. -/
def latched (op u a : Byte) (n : Nat) : State :=
  { inSettle with curOp := op, curUnit := u, curAddr := a, expLen := n }

theorem inv_inTx : Inv inTx where
  rx_le := by decide
  exp_values := by decide
  tx_le := by decide
  sending := by decide
  sent_all := by decide
  room := by decide
  open_result := by decide
  legal := fun _ => ⟨.init, by decide, rfl⟩
  settle_timer := rfl
  read_timer := rfl

theorem inv_inSettle : Inv inSettle where
  rx_le := by decide
  exp_values := by decide
  tx_le := by decide
  sending := by decide
  sent_all := by decide
  room := by decide
  open_result := by decide
  legal := fun _ => ⟨.init, by decide, rfl⟩
  settle_timer := rfl
  read_timer := rfl

theorem inv_inRead : Inv inRead where
  rx_le := by decide
  exp_values := by decide
  tx_le := by decide
  sending := by decide
  sent_all := by decide
  room := by decide
  open_result := by decide
  legal := fun _ => ⟨.init, by decide, rfl⟩
  settle_timer := rfl
  read_timer := rfl

/-! ### WellFormed: the check refuses each ill-formed term -/

theorem test_goto_range : Instr.wellFormed (.goto 0 65536) = false := by decide
theorem test_goto_top_is_well_formed : Instr.wellFormed (.goto 255 65535) = true := by decide

/-! ### Decoding: frames written from R82 and V2, and refusals (R85) -/

theorem test_decode_init :
    decode [0b10101010#8, 0b00000001#8, 0b01010101#8, 0b11111110#8, 0b01010101#8, 0b11111110#8,
      0b10101110#8] = .ok (.init 1) := by decide
theorem test_decode_gstat :
    decode [0b00110011#8, 0#8, 0#8, 0#8, 0#8, 0#8, 0b11001100#8] = .ok .gstat := by decide
theorem test_decode_gpos :
    decode [0b01010101#8, 0#8, 0#8, 0#8, 0#8, 0#8, 0b10101010#8] = .ok .gpos := by decide
theorem test_decode_stop :
    decode [0b11000011#8, 0b00000010#8, 0b00111100#8, 0b11111101#8, 0b00111100#8, 0b11111101#8,
      0b11001000#8] = .ok (.stop 2) := by decide
theorem test_decode_goto :
    decode [0b00001111#8, 0b00000010#8, 0b00110100#8, 0b00010010#8, 0b11110000#8, 0b11111101#8,
      0b10111011#8] = .ok (.goto 2 0x1234) := by decide
theorem test_decode_setcfg :
    decode [0b10001000#8, 0b00000100#8, 0b11111111#8, 0b10000000#8, 0b01111111#8, 0b00000000#8,
      0b01110101#8] = .ok (.setcfg 4 0xFF 0x80 0x7F 0) := by decide
theorem test_decode_getcfg :
    decode [0b01110111#8, 0#8, 0#8, 0#8, 0#8, 0#8, 0b10001000#8] = .ok .getcfg := by decide

theorem test_decode_refuses_length : decode [0xAA#8] = .error .badLength := by decide
theorem test_decode_refuses_opcode :
    decode [0x12#8, 0#8, 0#8, 0#8, 0#8, 0#8, 0xED#8] = .error .unknownOpcode := by decide
theorem test_decode_refuses_fixed_byte :
    decode [0x0F#8, 0#8, 0#8, 0#8, 0xF1#8, 0xFF#8, 0x00#8] = .error .badFixedByte := by decide
theorem test_decode_refuses_complement :
    decode [0xAA#8, 1#8, 0x55#8, 0xFF#8, 0x55#8, 0xFE#8, 0xAD#8] = .error .badComplement := by decide
theorem test_decode_refuses_checksum :
    decode [0xAA#8, 1#8, 0x55#8, 0xFE#8, 0x55#8, 0xFE#8, 0xAF#8] = .error .badChecksum := by decide

/-- The match words of spec/opcode_table.json. -/
theorem test_table_match_words :
    decodeTableWord 56 0xAA005500550000 = some (.init 0) ∧
    decodeTableWord 56 0x330000000000CC = some .gstat ∧
    decodeTableWord 56 0x550000000000AA = some .gpos ∧
    decodeTableWord 56 0xC3003C003C0000 = some (.stop 0) ∧
    decodeTableWord 56 0x0F000000F00000 = some (.goto 0 0) ∧
    decodeTableWord 56 0x88000000000000 = some (.setcfg 0 0 0 0 0) ∧
    decodeTableWord 56 0x77000000000088 = some .getcfg := by decide
/-- A whole frame as a 56-bit number, byte 0 most significant (R81, V2). -/
theorem test_table_whole_frame :
    decodeTableWord 56 0x0F01E803F0FE16 = some (.goto 1 1000) := by decide
theorem test_table_no_row : decodeTableWord 56 0x12000000000000 = none := by decide
theorem test_table_word_runs_first :
    nextField State.curOp (step (State.reset.withFetchWord 56 0xC3003C003C0000)) = some 0xC3#8 := by decide

/-! ### Instructions: one step from the reset state with the link up (V2, E4, R84) -/

theorem test_init_frame : nextField State.txf (exec (.init 0x80) State.reset) =
    some #v[0xAA#8, 0x80#8, 0x55#8, 0x7F#8, 0x55#8, 0x7F#8, 0x2D#8] := by decide
theorem test_init_length : nextField State.expLen (exec (.init 0x80) State.reset) = some 4 := by decide
theorem test_stop_frame : nextField State.txf (exec (.stop 0xFF) State.reset) =
    some #v[0xC3#8, 0xFF#8, 0x3C#8, 0x00#8, 0x3C#8, 0x00#8, 0xC5#8] := by decide
theorem test_stop_length : nextField State.expLen (exec (.stop 0xFF) State.reset) = some 4 := by decide
theorem test_goto_frame : nextField State.txf (exec (.goto 1 1000) State.reset) =
    some #v[0x0F#8, 0x01#8, 0xE8#8, 0x03#8, 0xF0#8, 0xFE#8, 0x16#8] := by decide
theorem test_goto_length : nextField State.expLen (exec (.goto 1 1000) State.reset) = some 6 := by decide
theorem test_gstat_frame : nextField State.txf (exec .gstat inTx) = some inTx.txf ∧
    nextField State.txf (exec .gstat State.reset) =
      some #v[0x33#8, 0#8, 0#8, 0#8, 0#8, 0#8, 0xCC#8] := by decide
theorem test_gstat_length : nextField State.expLen (exec .gstat State.reset) = some 15 := by decide
theorem test_gpos_frame : nextField State.txf (exec .gpos State.reset) =
    some #v[0x55#8, 0#8, 0#8, 0#8, 0#8, 0#8, 0xAA#8] := by decide
theorem test_gpos_length : nextField State.expLen (exec .gpos State.reset) = some 20 := by decide
theorem test_setcfg_frame : nextField State.txf (exec (.setcfg 0xC0 0 0 0x38 0x42) State.reset) =
    some #v[0x88#8, 0xC0#8, 0x00#8, 0x00#8, 0x38#8, 0x42#8, 0x3D#8] := by decide
theorem test_setcfg_length :
    nextField State.expLen (exec (.setcfg 0xC0 0 0 0x38 0x42) State.reset) = some 4 := by decide
theorem test_getcfg_frame : nextField State.txf (exec .getcfg State.reset) =
    some #v[0x77#8, 0#8, 0#8, 0#8, 0#8, 0#8, 0x88#8] := by decide
theorem test_getcfg_length : nextField State.expLen (exec .getcfg State.reset) = some 250 := by decide

/-! ### Checks (V1, V3, V4) -/

theorem test_csum_wraps : csum [0x80#8, 0x80#8] = 0xFF#8 ∧ csum [0xFF#8] = 0#8 := by decide
theorem test_validate_short :
    validateResponse 0xAA#8 [0xAA#8, 0#8, 0#8] 4 = some (.lengthMismatch 3) := by decide
theorem test_validate_long :
    validateResponse 0xAA#8 [0xAA#8, 0#8, 0#8, 0x55#8, 0#8] 4 = some (.lengthMismatch 5) := by decide
theorem test_validate_checksum_first :
    validateResponse 0xAA#8 [0xAB#8, 0#8, 0#8, 0x55#8] 4 = some (.checksumMismatch 0x55#8) := by decide
theorem test_validate_opcode :
    validateResponse 0xAA#8 [0xAB#8, 0#8, 0#8, 0x54#8] 4 = some (.opcodeMismatch 0xAB#8) := by decide
theorem test_validate_swapped_passes : validateResponse 0xAA#8 [0xAA#8, 0x34#8, 0x12#8, 0x0F#8] 4 =
    some (.ok [0xAA#8, 0x34#8, 0x12#8, 0x0F#8]) := by decide
theorem test_goto_unit_mismatch :
    nextField State.result (finish [0x0F#8, 0x02#8, 0#8, 0#8, 0#8, 0xEE#8] (latched 0x0F 1 0 6)) =
      some .unitMismatch := by decide
theorem test_goto_checksum_before_unit :
    nextField State.result (finish [0x0F#8, 0x02#8, 0#8, 0#8, 0#8, 0xEF#8] (latched 0x0F 1 0 6)) =
      some .checksumMismatch := by decide
theorem test_setcfg_nack :
    nextField (fun t => (t.result, t.ack)) (finish [0x88#8, 0x08#8, 0x10#8, 0x5F#8] (latched 0x88 0 8 4)) =
      some (.deviceNack, 0x10#8) := by decide
theorem test_setcfg_address_before_ack :
    nextField (fun t => (t.result, t.ack)) (finish [0x88#8, 0x05#8, 0x10#8, 0x62#8] (latched 0x88 0 4 4)) =
      some (.addressMismatch, 0x00#8) := by decide

/-! ### Events and registers (V5, V6) -/

theorem test_link_down_start : nextField (fun t => (t.result, t.done, t.rdata)) (exec (.init 1) linkDown) =
    some (.transportError, true, 0x02#8) := by decide
theorem test_illegal_start : (hostWrite aCTRL 1 { State.reset with args.opcode := 0x12#8 }).result =
    .illegalCommand := by decide
theorem test_error_in_tx : nextField (fun t => (t.result, t.phase, t.rxCount)) (takeInput .tErr inTx) =
    some (.transportError, .idle, 0) := by decide
theorem test_settle_timeout : nextField (fun t => (t.phase, t.done)) (takeInput .settleExpire inSettle) =
    some (.read, false) := by decide
theorem test_settle_full : nextField (fun t => (t.result, t.phase)) (takeInput .settleExpire settleFull) =
    some (.ok, .idle) := by decide +kernel
theorem test_read_last_byte :
    nextField (fun t => (t.result, t.phase, t.rxCount)) (takeInput (.rxByte 0x55#8) inRead) =
      some (.ok, .idle, 4) := by decide +kernel
theorem test_read_short : nextField (fun t => (t.result, t.rxCount)) (takeInput .readTimeout inRead) =
    some (.lengthMismatch, 3) := by decide +kernel
/-- A second mnemonic while the first is in flight: its START is lost (R93, R236). -/
theorem test_mnemonic_while_waiting : nextField (fun t => (t.phase, t.curOp, t.args.opcode, t.host))
    (takeInput (.request [0x33#8, 0#8, 0#8, 0#8, 0#8, 0#8, 0xCC#8]) inTx) =
      some (.tx, 0xAA#8, 0x33#8, .waiting) := by decide
/-- E14: the host writes UNIT in phase READ, inside its WAITDONE. -/
theorem test_unit_written_in_read : nextField (fun t => (t.args.unit, t.curUnit))
    (takeInput (.host (.wr aUNIT 2#8)) inRead) = some (2#8, 1#8) := by decide
theorem test_idle_byte_discarded : nextField State.rxCount (takeInput (.rxByte 0xAA#8) State.reset) =
    some 0 := by decide
theorem test_reset_in_read : nextField (fun t => (t.phase, t.done, t.result, readAt aSTATUS t))
    (takeInput .reset inRead) = some (.idle, false, .ok, 0x04#8) := by decide
theorem test_status_after_reset : readAt 0x00A State.reset = 0x04#8 := by decide
theorem test_status_in_read : readAt 0x00A inRead = 0x05#8 := by decide
theorem test_reserved_reads_zero :
    [0x00F, 0x017, 0x0FF, 0x1FA, 0x1FF].map (fun a => readAt a inRead) = [0, 0, 0, 0, 0] := by decide
theorem test_read_only_ignores_write : readAt 0x00B (hostWrite 0x00B 5 State.reset) = 0#8 := by decide
theorem test_frame_buffer_ignores_write : readAt 0x010 (hostWrite 0x010 0x12 inTx) = 0xAA#8 := by decide
theorem test_unit_reads_back : readAt 0x001 (hostWrite 0x001 0xC8 State.reset) = 0xC8#8 := by decide

/-! ### Payloads (R58, R169 with V4's GetPosition reply) -/

theorem test_correction_sign : correctionValue 0x80#8 = -128 ∧ correctionValue 0x7F#8 = 127 := by decide
theorem test_correction_write_back : correctionByte (-1) = 0xFF#8 ∧ correctionByte (-128) = 0x80#8 ∧
    correctionByte 127 = 0x7F#8 := by decide
theorem test_float_order : floatBits 0x00#8 0x00#8 0x38#8 0x42#8 = 0x42380000#32 ∧
    floatBytes 0x42380000#32 = #v[0x00#8, 0x00#8, 0x38#8, 0x42#8] := by decide
theorem test_position_layout :
    absolutePosition 1 { State.reset with resp := (replyBuffer.set 5 0xE8#8).set 6 0x03#8 } = 1000 := by
  decide +kernel

/-! ### Witnesses of the codec and encoding obligations -/

theorem witness_FrameSumLaw : ([0xFF#8] : List Byte) ≠ [] := by decide
theorem witness_ValidationChecksInOrder :
    1 ≤ 1 ∧ 1 ≤ 4 ∧ [0xAA#8, 0#8, 0#8].length ≠ 4 ∧
    ([0xFF#8] = [] ++ [0xFF#8] ∧ [0xFF#8].length = 1 ∧ [0xFF#8].head? = some 0xFF#8 ∧
      csum [] = 0xFF#8 ∧ 0xFF#8 ≠ 0xAA#8) ∧
    ([0xAB#8, 0#8, 0#8].head? = some 0xAB#8 ∧ csum [0xAB#8, 0#8, 0#8] ≠ 0x55#8) ∧
    ([0xAA#8, 0#8, 0#8].head? = some 0xAA#8 ∧ csum [0xAA#8, 0#8, 0#8] = 0x55#8) := by decide
theorem witness_SingleBitFlipFailsTheChecksum :
    ∃ (f : List Byte) (hf : f ≠ []), csum f.dropLast = f.getLast hf ∧ f.length = 6 ∧ 0 < f.length ∧
      5 < f.length ∧ 0 < 8 ∧ 7 < 8 :=
  ⟨[0x0F#8, 1#8, 0#8, 0#8, 0#8, 0xEF#8], by decide, by decide⟩
theorem witness_EqualSumsPassAlike :
    ∃ (f g : List Byte), f ≠ [] ∧ g ≠ [] ∧ f ≠ g ∧ byteSum f % 256 = byteSum g % 256 ∧ f.Perm g ∧
      0 < f.length ∧ 3 < f.length ∧ (0 : Nat) ≠ 3 :=
  ⟨[0xAA#8, 0x12#8, 0x34#8, 0x0F#8], [0xAA#8, 0x34#8, 0x12#8, 0x0F#8], by decide⟩
theorem witness_SevenOpcodesAndNoOther : commandOf 0x12#8 = none := by decide
theorem witness_RequestFrameOfEveryInstruction : 65535 ≤ 65535 := by decide
theorem witness_EncodedInstructionDecodesBack : Instr.WellFormed (.goto 0xFF#8 65535) := by decide
theorem witness_DecodedFrameIsTheEncoding :
    decode [0x0F#8, 2#8, 0xFF#8, 0xFF#8, 0xF0#8, 0xFD#8, 0x03#8] = .ok (.goto 2 65535) := by decide
theorem witness_TableWordsDecodeToTheirRow :
    tableRows.map (fun r => decide (r.value < 2 ^ 56) && (r.value &&& r.mask == r.value)) =
      [true, true, true, true, true, true, true] ∧
    (0xAAFF550055FFFF < 2 ^ 56 ∧ 0xAAFF550055FFFF &&& 0xFF00FF00FF0000 = 0xAA005500550000) ∧
    (0x88FFFFFFFFFFFF < 2 ^ 56 ∧ 0x88FFFFFFFFFFFF &&& 0xFF000000000000 = 0x88000000000000) := by decide

/-! ### Witnesses of the step and instruction obligations -/

theorem witness_StepRunsTheDecodedInstruction :
    (∃ s : State, s.inbox = .request [0x33#8, 0#8, 0#8, 0#8, 0#8, 0#8, 0xCC#8] :: [] ∧
      decode [0x33#8, 0#8, 0#8, 0#8, 0#8, 0#8, 0xCC#8] = .ok .gstat) ∧
    (∃ s : State, s.inbox = .request [0x33#8] :: [] ∧ decode [0x33#8] = .error .badLength) :=
  ⟨⟨{ State.reset with inbox := [.request [0x33#8, 0#8, 0#8, 0#8, 0#8, 0#8, 0xCC#8]] }, by decide⟩,
    ⟨{ State.reset with inbox := [.request [0x33#8]] }, by decide⟩⟩
theorem witness_PlacedTableWordRunsNext : decodeTableWord 56 0x77000000000088 = some .getcfg := by decide
theorem witness_InitAndStopSendTheirFrame :
    State.reset.phase = .idle ∧ State.reset.link = true := by decide
theorem witness_GotoSendsItsFrame : State.reset.phase = .idle ∧ State.reset.link = true := by decide
theorem witness_ReadCommandsSendTheirFixedFrame :
    State.reset.phase = .idle ∧ State.reset.link = true := by decide
theorem witness_SetcfgSendsItsFrame : State.reset.phase = .idle ∧ State.reset.link = true := by decide
theorem witness_LinkDownInstructionFailsUnsent :
    linkDown.phase = .idle ∧ linkDown.link = false := by decide
theorem witness_BusyInstructionLosesItsStart : inTx.phase ≠ .idle ∧ inRead.phase ≠ .idle := by decide
theorem witness_InstructionFrame :
    (∃ t, exec .gstat State.reset = .next t) ∧ (∃ t, exec (.init 1) State.reset = .next t) ∧
    (∃ t, exec (.goto 1 1000) State.reset = .next t) ∧
    (∃ t, exec (.setcfg 0 1 2 3 4) inRead = .next t) ∧ inRead.phase ≠ .idle ∧
    Instr.command .gstat ∈ [.getStatus, .getPosition, .getConfigMemory] ∧
    Instr.command (.init 1) ∈ [.init, .stop] ∧
    Instr.command (.goto 1 1000) = .gotoPosition ∧ Instr.command (.setcfg 0 1 2 3 4) = .setConfigData :=
  ⟨⟨_, rfl⟩, ⟨_, rfl⟩, ⟨_, rfl⟩, ⟨_, rfl⟩, by decide, by decide, by decide, by decide, by decide⟩

/-! ### Witnesses of the START obligations -/

theorem witness_LostStartLeavesNoTrace :
    (0xFE#8).getLsbD 0 = false ∧ (0xFF#8).getLsbD 0 = true ∧ inTx.phase ≠ .idle := by decide
theorem witness_IllegalOpcodeStart :
    State.reset.phase = .idle ∧ (1#8).getLsbD 0 = true ∧
    State.reset.args.opcode ∉ [0xAA#8, 0x33#8, 0x55#8, 0xC3#8, 0x0F#8, 0x88#8, 0x77#8] := by decide
theorem witness_AcceptedStart :
    ∃ s : State, s.phase = .idle ∧ (1#8).getLsbD 0 = true ∧ s.args.opcode = opcodeOf .getStatus ∧
      s.link = true :=
  ⟨{ State.reset with args.opcode := 0x33#8 }, by decide⟩
theorem witness_LinkDownStart :
    ∃ s : State, s.phase = .idle ∧ (0xFF#8).getLsbD 0 = true ∧ s.args.opcode = opcodeOf .init ∧
      s.link = false :=
  ⟨{ linkDown with args.opcode := 0xAA#8 }, by decide⟩

/-! ### Witnesses of the event obligations -/

theorem witness_TxAcceptTakesTheNextByte :
    (inTx.txIdx < 7 ∧ inTx.phase = .tx ∧ inTx.txIdx ≠ 6) ∧
    (inTxLast.txIdx < 7 ∧ inTxLast.phase = .tx ∧ inTxLast.txIdx = 6) ∧ inSettle.phase ≠ .tx := by decide
theorem witness_SevenAcceptsSendTheWholeFrame : inTx.phase = .tx ∧ inTx.txIdx = 0 := by decide
theorem witness_SettleExpiryValidatesOrReads :
    (settleFull.phase = .settle ∧ settleFull.rxCount = settleFull.expLen) ∧
    (inSettle.phase = .settle ∧ inSettle.rxCount ≠ inSettle.expLen) ∧ inRead.phase ≠ .settle := by decide
theorem witness_ReceivedByteIsStoredOrDiscarded :
    (inSettle.rxCount < 250 ∧ (inSettle.phase = .settle ∨ inSettle.phase = .read) ∧
      inSettle.rxCount < inSettle.expLen ∧
      ¬ (inSettle.phase = .read ∧ inSettle.rxCount + 1 = inSettle.expLen)) ∧
    (inRead.rxCount < 250 ∧ (inRead.phase = .settle ∨ inRead.phase = .read) ∧
      inRead.rxCount < inRead.expLen ∧ inRead.phase = .read ∧ inRead.rxCount + 1 = inRead.expLen) ∧
    State.reset.phase = .idle ∧ inTx.phase = .tx ∧ settleFull.rxCount = settleFull.expLen := by decide
theorem witness_ReadTimeoutIsLengthMismatch :
    (inRead.phase = .read ∧ inRead.rxCount < inRead.expLen) ∧
    ¬ (inSettle.phase = .read ∧ inSettle.rxCount < inSettle.expLen) := by decide
theorem witness_TransportErrorEndsTheCommand :
    inTx.phase ≠ .idle ∧ inRead.phase ≠ .idle ∧ State.reset.phase = .idle := by decide
theorem witness_ChecksRunInOrder :
    (inSettle.curOp = opcodeOf .init ∧ inSettle.expLen = respLen .init) ∧
    ((latched 0x0F 1 0 6).curOp = opcodeOf .gotoPosition ∧
      (latched 0x0F 1 0 6).expLen = respLen .gotoPosition) ∧
    ((latched 0x88 0 4 4).curOp = opcodeOf .setConfigData ∧
      (latched 0x88 0 4 4).expLen = respLen .setConfigData) := by decide
theorem witness_SetConfigDataChecksAddressThenAck :
    (latched 0x88 0 4 4).curOp = 0x88#8 ∧ (latched 0x88 0 4 4).expLen = 4 ∧
    5#8 ≠ (latched 0x88 0 4 4).curAddr ∧ 4#8 = (latched 0x88 0 4 4).curAddr := by decide
theorem witness_PlainCommandsAcceptAnyPayload :
    Command.init ∈ [.init, .stop, .getStatus, .getPosition, .getConfigMemory] ∧
    inSettle.curOp = opcodeOf .init ∧ inSettle.expLen = respLen .init ∧
    [0x12#8, 0x34#8].length + 2 = respLen .init := by decide
theorem witness_CompletionChangesOnlyItsRegisters :
    (isDispatcher (.rxByte 0x55#8) = true ∧ inRead.phase ≠ .idle ∧
      ∃ t, takeInput (.rxByte 0x55#8) inRead = .next t ∧ t.phase = .idle) ∧
    (isDispatcher .tErr = true ∧ inTx.phase ≠ .idle ∧ inTx.curOp ≠ 0x88#8 ∧
      ∃ t, takeInput .tErr inTx = .next t ∧ t.phase = .idle) :=
  ⟨⟨by decide, by decide, _, rfl, rfl⟩, ⟨by decide, by decide, by decide, _, rfl, rfl⟩⟩

/-! ### Witnesses of the register-space obligations -/

theorem witness_ArgumentRegistersReadBack :
    (0x008 : HostAddr).toNat ≤ 8 ∧ (0x000 : HostAddr).toNat ≤ 8 ∧ (0x009 : HostAddr) ≠ 0x008 := by
  decide
theorem witness_ReadOnlyAndReservedAddresses :
    10 ≤ (0x00A : HostAddr).toNat ∧ 10 ≤ (0x1FF : HostAddr).toNat ∧
    (0x009 : HostAddr).toNat = 0x009 ∧ (0x00F : HostAddr).toNat = 0x00F ∧
    (0x017 ≤ (0x017 : HostAddr).toNat ∧ (0x017 : HostAddr).toNat ≤ 0x0FF) ∧
    (0x017 ≤ (0x0FF : HostAddr).toNat ∧ (0x0FF : HostAddr).toNat ≤ 0x0FF) ∧
    0x1FA ≤ (0x1FA : HostAddr).toNat := by decide
theorem witness_StatusBits : 3 ≤ 3 ∧ Inv inRead := ⟨by decide, inv_inRead⟩
theorem witness_WaitDonePollsUntilDone :
    Inv inRead ∧ (inRead.host = .ready → inRead.phase = .idle) ∧
    (∀ v : Byte, v.getLsbD 0 = true → Input.host .waitDone ≠ .host (.wr 0x009 v)) ∧
    ∃ t, takeInput (.host .waitDone) inRead = .next t :=
  ⟨inv_inRead, by decide, by simp, _, rfl⟩
theorem witness_ResetRestoresEveryRegister :
    (0x000 : HostAddr).toNat < 0x100 ∧ (0x0FF : HostAddr).toNat < 0x100 ∧
    (0x000 : HostAddr) ≠ 0x00A ∧ (0x0FF : HostAddr) ≠ 0x00A := by decide

/-! ### Witnesses of the whole-machine obligations -/

theorem witness_EveryStepKeepsTheInvariant : Inv inRead ∧ ∃ t, step inRead = .next t :=
  ⟨inv_inRead, _, rfl⟩
theorem witness_EveryStepKeepsTheRequestBuffer : RequestInv inRead ∧ ∃ t, step inRead = .next t :=
  ⟨⟨.inr ⟨.init 1, by decide, by decide⟩, fun _ => ⟨by decide, .init, by decide⟩, by decide, by decide⟩,
    _, rfl⟩
theorem witness_EveryStepKeepsTheWire : WireInv inRead ∧ ∃ t, step inRead = .next t :=
  ⟨fun _ => ⟨[], by decide⟩, _, rfl⟩
theorem witness_NoStepFaults : Inv inRead := inv_inRead
theorem witness_InFlightValidationIsInDomain :
    Inv inRead ∧ inRead.phase ≠ .idle ∧
    ∃ t, takeInput .readTimeout inRead = .next t ∧ t.result = .lengthMismatch :=
  ⟨inv_inRead, by decide, _, rfl, rfl⟩
theorem witness_ResultsStayUntilTheNextStart :
    State.reset.phase = .idle ∧ startsOrResets (.rxByte 0xAA#8) = false ∧
    startsOrResets (.host (.wr aCTRL 0xFE#8)) = false ∧
    (∃ t, takeInput (.rxByte 0xAA#8) State.reset = .next t) ∧
    ∃ t, takeInput (.host (.wr aCTRL 0xFE#8)) State.reset = .next t :=
  ⟨by decide, by decide, by decide, ⟨_, rfl⟩, ⟨_, rfl⟩⟩
theorem witness_OnlyTheHostWritesArguments :
    isDispatcher (.rxByte 0x55#8) = true ∧ ∃ t, takeInput (.rxByte 0x55#8) inRead = .next t :=
  ⟨by decide, _, rfl⟩
theorem witness_HostDoesNotReachTheCommandInFlight :
    (isDispatcher .settleExpire = true ∧
      inSettle.view = State.view { inSettle with args := ArgRegs.zero, link := false, host := .ready } ∧
      ∃ t, takeInput .settleExpire inSettle = .next t) ∧
    (inTx.phase ≠ .idle ∧ ∃ t, takeInput (.host .waitDone) inTx = .next t) ∧
    ∃ t, takeInput (.linkReady false) inTx = .next t :=
  ⟨⟨by decide, rfl, _, rfl⟩, ⟨by decide, _, rfl⟩, _, rfl⟩
theorem witness_PhaseGraph :
    (∃ t, takeInput .txAccept inTxLast = .next t) ∧ (∃ t, takeInput .settleExpire settleFull = .next t) ∧
    ∃ t, takeInput (.host (.wr aCTRL 1#8)) { State.reset with args.opcode := 0x33#8 } = .next t :=
  ⟨⟨_, rfl⟩, ⟨_, rfl⟩, _, rfl⟩

/-- `AA 00` in the settle delay and `00 55` in the read (E10), the link falling in between (E17). -/
theorem witness_ReplyInWindowGivesItsVerdict :
    State.reset.phase = .idle ∧ State.reset.link = true ∧
    ([0xAA#8, 0#8] ++ [0#8, 0x55#8]).length = respLen (Instr.command (.init 1)) ∧
    ((Input.linkReady false :: replyCycle [0xAA#8, 0#8] [0#8, 0x55#8]) ++ [Input.host .waitDone]).filter
      (fun e => !isQuiet e) = replyCycle [0xAA#8, 0#8] [0#8, 0x55#8] := by decide
theorem witness_ShortReplyTimesOut :
    State.reset.phase = .idle ∧ State.reset.link = true ∧
    ([0x77#8] ++ [0#8]).length < respLen (Instr.command .getcfg) := by decide
theorem witness_FairEnvironmentEndsEveryCommand :
    (Inv inTx ∧ inTx.phase = .tx) ∧ (Inv inSettle ∧ inSettle.phase = .settle) ∧
    (Inv inRead ∧ inRead.phase = .read) ∧
    (∃ t, runInputs (replyCycle [] [] ++ [Input.readTimeout]) inTx = .next t) ∧
    9 ≤ (replyCycle [] [] ++ [Input.readTimeout]).countP progresses :=
  ⟨⟨inv_inTx, rfl⟩, ⟨inv_inSettle, rfl⟩, ⟨inv_inRead, rfl⟩, ⟨_, rfl⟩, by decide⟩

/-- `t_err` in TX, then nothing but the link level: the states of a fair run. -/
def fairStates : Nat → State
  | 0 => inTx
  | _ + 1 => linkReady true (tErr inTx)

/-- Its inputs. -/
def fairInputs : Nat → Input
  | 0 => .tErr
  | _ + 1 => .linkReady true

theorem fairStates_idle (n : Nat) : (fairStates (n + 1)).phase = .idle := rfl

theorem witness_FairEnvironmentEndsEveryCommand_run :
    Inv (fairStates 0) ∧ IsRun fairStates fairInputs ∧ FairEnv fairStates fairInputs ∧
      (fairStates 0).phase = .tx :=
  ⟨inv_inTx, fun n => by cases n <;> rfl,
    ⟨fun n h => absurd (h (n + 1) (Nat.le_succ n)) (by rw [fairStates_idle]; decide),
      fun n h => absurd (h (n + 1) (Nat.le_succ n)) (by rw [fairStates_idle]; decide),
      fun n h => absurd (h (n + 1) (Nat.le_succ n)).1 (by rw [fairStates_idle]; decide)⟩, rfl⟩

end Sys2Proof.Tests
end

section
/-! PROOFS. The encoding family (30_encoding R80 to R84): the command table and the request frames. -/

namespace Sys2Proof.Machine

/-! ### The command table -/

/-- A byte outside the table names no command (R84, R89). -/
theorem commandOf_eq_none {op : Byte} : commandOf op = none ↔ ∀ c, op ≠ opcodeOf c := by
  simp only [Option.eq_none_iff_forall_ne_some, ne_eq, commandOf_eq_some]

/-- The column of opcodes of R84's table. -/
theorem mem_opcodes {op : Byte} :
    op ∈ [0xAA#8, 0x33#8, 0x55#8, 0xC3#8, 0x0F#8, 0x88#8, 0x77#8] ↔ ∃ c, op = opcodeOf c := by
  constructor
  · simp only [List.mem_cons, List.not_mem_nil, or_false]
    rintro (h | h | h | h | h | h | h)
    · exact ⟨.init, h⟩
    · exact ⟨.getStatus, h⟩
    · exact ⟨.getPosition, h⟩
    · exact ⟨.stop, h⟩
    · exact ⟨.gotoPosition, h⟩
    · exact ⟨.setConfigData, h⟩
    · exact ⟨.getConfigMemory, h⟩
  · rintro ⟨c, rfl⟩
    cases c <;> decide

/-- Settles O8: `commandOf` is the inverse of `opcodeOf`, whose seven values are the listed bytes; the
rows of the table are read off. -/
theorem sevenOpcodesAndNoOther : Obligations.SevenOpcodesAndNoOther := by
  have hnone (op : Byte) : commandOf op = none ↔
      op ∉ [0xAA#8, 0x33#8, 0x55#8, 0xC3#8, 0x0F#8, 0x88#8, 0x77#8] := by
    rw [commandOf_eq_none, mem_opcodes, not_exists]
  exact ⟨commandOf_opcodeOf, hnone, by decide⟩

/-! ### Checksums in byte arithmetic -/

/-- The checksum adds its bytes with wrap-around at 8 bits (R110). -/
theorem csum_eq_sum_xor (s : List Byte) : csum s = s.sum ^^^ 0xFF#8 := by
  have hsum : BitVec.ofNat 8 (byteSum s % 256) = s.sum := by
    induction s with
    | nil => rfl
    | cons b s ih =>
      rw [List.sum_cons, ← ih, byteSum_cons]
      bv_omega
  rw [csum, hsum]

/-- The complement of R112 as a subtraction of bytes. -/
theorem xor_ones_eq_sub (b : Byte) : b ^^^ 0xFF#8 = 0xFF#8 - b := by
  have h : (b ^^^ 0xFF#8).toNat = 255 - b.toNat := not8_toNat b
  bv_omega

/-- A frame body with a unit, its complement twice, a constant `k` twice and opcode `op`: the unit and one
complement cancel to 0xFF, so the sum is `op + 2k - 2 - u` (R161, R162). -/
theorem csum_complement_frame (op k u : Byte) :
    csum [op, u, k, u ^^^ 0xFF#8, k, u ^^^ 0xFF#8] = (op + k + k - 2#8 - u) ^^^ 0xFF#8 := by
  have hsum : [op, u, k, u ^^^ 0xFF#8, k, u ^^^ 0xFF#8].sum = op + k + k - 2#8 - u := by
    simp only [List.sum_cons, List.sum_nil, xor_ones_eq_sub]
    grind
  rw [csum_eq_sum_xor, hsum]

/-! ### Request frames -/

theorem encode_length (i : Instr) : (encode i).length = 7 := buildRequest_length _ _

/-- Byte 6 covers the six bytes before it, whatever the instruction (R80, R113). -/
theorem encode_checksum (i : Instr) : (encode i)[6]? = some (csum ((encode i).take 6)) := by
  rw [encode, requestOf, buildRequest_toList]
  rfl

theorem encode_init (u : Byte) : encode (.init u) =
    [0xAA#8, u, 0x55#8, u ^^^ 0xFF#8, 0x55#8, u ^^^ 0xFF#8, (82#8 - u) ^^^ 0xFF#8] := by
  have hcsum : csum [0xAA#8, u, 0x55#8, u ^^^ 0xFF#8, 0x55#8, u ^^^ 0xFF#8] = (82#8 - u) ^^^ 0xFF#8 :=
    csum_complement_frame 0xAA#8 0x55#8 u
  rw [← hcsum]
  rfl

theorem encode_stop (u : Byte) : encode (.stop u) =
    [0xC3#8, u, 0x3C#8, u ^^^ 0xFF#8, 0x3C#8, u ^^^ 0xFF#8, (57#8 - u) ^^^ 0xFF#8] := by
  have hcsum : csum [0xC3#8, u, 0x3C#8, u ^^^ 0xFF#8, 0x3C#8, u ^^^ 0xFF#8] = (57#8 - u) ^^^ 0xFF#8 :=
    csum_complement_frame 0xC3#8 0x3C#8 u
  rw [← hcsum]
  rfl

theorem encode_goto (u : Byte) (pos : Nat) : encode (.goto u pos) =
    [0x0F#8, u, BitVec.ofNat 8 (pos % 256), BitVec.ofNat 8 (pos / 256), 0xF0#8, u ^^^ 0xFF#8,
      csum [0x0F#8, u, BitVec.ofNat 8 (pos % 256), BitVec.ofNat 8 (pos / 256), 0xF0#8, u ^^^ 0xFF#8]] :=
  rfl

theorem encode_setcfg (a d0 d1 d2 d3 : Byte) : encode (.setcfg a d0 d1 d2 d3) =
    [0x88#8, a, d0, d1, d2, d3, (0x88#8 + a + d0 + d1 + d2 + d3) ^^^ 0xFF#8] := by
  have hsum : [0x88#8, a, d0, d1, d2, d3].sum = 0x88#8 + a + d0 + d1 + d2 + d3 := by
    simp [BitVec.add_assoc]
  rw [← hsum, ← csum_eq_sum_xor]
  rfl

/-- Settles O9: the shape of every frame from `buildRequest`, the bytes from the field table, and the
closed checksums from the sum in byte arithmetic. -/
theorem requestFrameOfEveryInstruction : Obligations.RequestFrameOfEveryInstruction :=
  ⟨fun i => ⟨encode_length i, encode_checksum i⟩, encode_init, encode_stop,
    fun u pos _ => encode_goto u pos, encode_setcfg, by decide⟩

end Sys2Proof.Machine
end

section
/-! PROOFS. The frame codec family (40_frame_codec R110 to R118): checksums, complements, the built request
and the order of the validator's checks. -/

namespace Sys2Proof.Machine

/-! ### Checksum and complement -/

/-- Settles O1: the corner sums are read off the checksum as a number, `csum_toNat`. -/
theorem checksumComplementsTheSum : Obligations.ChecksumComplementsTheSum := by
  refine ⟨fun s => ⟨rfl, csum_toNat s, fun h => ?_, fun h => ?_⟩, by decide⟩
  all_goals exact BitVec.eq_of_toNat_eq (by rw [csum_toNat, h]; rfl)

/-- Settles O3: the sum with the complement comes from `not8_toNat`. -/
theorem complementLaws : Obligations.ComplementLaws := by
  have hadd (b : Byte) : b.toNat + (not8 b).toNat = 255 := by
    rw [not8_toNat]
    omega
  exact ⟨fun b => ⟨rfl, not8_not8 b, hadd b⟩, by decide⟩

/-! ### The frame-sum law (R111) -/

/-- The last byte of a frame is the checksum of the bytes before it exactly when the frame sums to 0xFF:
`csum` is what the sum of the bytes lacks to 255 modulo 256. -/
theorem csum_eq_iff_byteSum_concat {s : List Byte} {c : Byte} :
    csum s = c ↔ byteSum (s ++ [c]) % 256 = 0xFF := by
  rw [← BitVec.toNat_inj, csum_toNat]
  simp only [byteSum_append, byteSum_cons, byteSum_nil]
  omega

theorem csum_dropLast_eq_getLast_iff {f : List Byte} (hf : f ≠ []) :
    csum f.dropLast = f.getLast hf ↔ byteSum f % 256 = 0xFF := by
  rw [csum_eq_iff_byteSum_concat, List.dropLast_append_getLast hf]

/-- Settles O2: both directions are the law for a frame split into its body and its last byte. -/
theorem frameSumLaw : Obligations.FrameSumLaw :=
  ⟨fun _ => csum_eq_iff_byteSum_concat.mp rfl, fun _ => csum_dropLast_eq_getLast_iff⟩

/-! ### Validation of a body and its last byte (R116) -/

/-- `validate_response` at a frame's own length: the checksum of the body, then the opcode. -/
theorem validateResponse_concat (op c : Byte) (body : List Byte) :
    validateResponse op (body ++ [c]) (body ++ [c]).length =
      some (if csum body ≠ c then .checksumMismatch c
        else if (body ++ [c]).getD 0 0 ≠ op then .opcodeMismatch ((body ++ [c]).getD 0 0)
        else .ok (body ++ [c])) := by
  have hbody : (body ++ [c]).take ((body ++ [c]).length - 1) = body := by simp
  have hlast : (body ++ [c]).getD ((body ++ [c]).length - 1) 0 = c := by simp
  have hpos : (body ++ [c]).length ≠ 0 := by simp
  rw [validateResponse, if_neg hpos, if_neg (not_not.mpr rfl), hbody, hlast]
  split_ifs <;> rfl

/-- The length check comes first: a wrong length decides whatever the bytes are. -/
theorem validateResponse_of_length_ne {op : Byte} {raw : List Byte} {n : Nat} (hn : n ≠ 0)
    (hlen : raw.length ≠ n) : validateResponse op raw n = some (.lengthMismatch raw.length) := by
  rw [validateResponse, if_neg hn, if_pos hlen]

/-- Settles O5: the length check is `validateResponse_of_length_ne`, and at the right length a body and
its last byte go through the checks of `validateResponse_concat`. -/
theorem validationChecksInOrder : Obligations.ValidationChecksInOrder := by
  intro op raw n hn
  refine ⟨validateResponse_of_length_ne (Nat.one_le_iff_ne_zero.mp hn), ?_⟩
  rintro body c x rfl rfl hhead
  have hfirst : (body ++ [c]).getD 0 0 = x := by
    rw [List.getD_eq_getElem?_getD, ← List.head?_eq_getElem?, hhead, Option.getD_some]
  rw [validateResponse_concat, hfirst]
  refine ⟨fun hsum => ?_, fun hsum hop => ?_, fun hsum hop => ?_⟩
  · rw [if_pos hsum]
  · rw [if_neg (not_not.mpr hsum), if_pos hop]
  · rw [if_neg (not_not.mpr hsum), if_neg (not_not.mpr hop)]

/-- A frame that starts with the expected opcode and ends with its checksum passes. -/
theorem validateResponse_wellFormed (op : Byte) (rest : List Byte) :
    validateResponse op (op :: rest ++ [csum (op :: rest)]) (op :: rest ++ [csum (op :: rest)]).length =
      some (.ok (op :: rest ++ [csum (op :: rest)])) := by
  rw [validateResponse_concat, if_neg (not_not.mpr rfl)]
  exact congrArg some (if_neg (not_not.mpr rfl))

/-- Settles O4: a built request is six bytes and their checksum (`buildRequest_toList`). -/
theorem builtRequestPassesItsOwnCheck : Obligations.BuiltRequestPassesItsOwnCheck := by
  refine ⟨fun op f0 f1 f2 f3 f4 => buildRequest_toList op _, fun op f => ⟨rfl, ?_⟩, by decide⟩
  rw [buildRequest_toList]
  exact validateResponse_wellFormed op [f[0], f[1], f[2], f[3], f[4]]

/-! ### One flipped bit (R118) -/

/-- A non-empty frame whose bytes do not sum to 0xFF fails the checksum test, whatever its opcode. -/
theorem validateResponse_of_byteSum_ne {op : Byte} {f : List Byte} (hf : f ≠ [])
    (hsum : byteSum f % 256 ≠ 0xFF) :
    validateResponse op f f.length = some (.checksumMismatch (f.getLast hf)) := by
  have h := validateResponse_concat op (f.getLast hf) f.dropLast
  rwa [List.dropLast_append_getLast hf,
    if_pos (mt (csum_dropLast_eq_getLast_iff hf).mp hsum)] at h

/-- Replacing a byte changes the sum by the difference of the two bytes. -/
theorem byteSum_set (f : List Byte) (i : Nat) (hi : i < f.length) (b : Byte) :
    byteSum (f.set i b) + f[i].toNat = byteSum f + b.toNat := by
  induction f generalizing i with
  | nil => simp at hi
  | cons a f ih =>
    cases i with
    | zero =>
      simp only [List.set_cons_zero, List.getElem_cons_zero, byteSum_cons]
      omega
    | succ i =>
      have htail := ih i (by simpa using hi)
      simp only [List.set_cons_succ, List.getElem_cons_succ, byteSum_cons]
      omega

/-- Two different bytes differ modulo 256, so replacing a byte by another changes the sum modulo 256. -/
theorem byteSum_set_mod_ne {f : List Byte} {i : Nat} (hi : i < f.length) {b : Byte} (hb : b ≠ f[i]) :
    byteSum (f.set i b) % 256 ≠ byteSum f % 256 := by
  have hset := byteSum_set f i hi b
  have hbyte : b.toNat ≠ f[i].toNat := mt BitVec.eq_of_toNat_eq hb
  omega

theorem xor_bit_ne {k : Nat} (hk : k < 8) (b : Byte) : b ^^^ (1#8 <<< k) ≠ b := by
  have hbit : 1#8 <<< k ≠ 0#8 := by
    revert k
    decide
  simpa using hbit

/-- Settles O6: the flipped byte is another byte, so the frame no longer sums to 0xFF (R111), and the
checksum is tested before the opcode. -/
theorem singleBitFlipFailsTheChecksum : Obligations.SingleBitFlipFailsTheChecksum := by
  intro op f hf i k hi hvalid hk
  have hsum : byteSum f % 256 = 0xFF := (csum_dropLast_eq_getLast_iff hf).mp hvalid
  have hflip : byteSum (f.set i (f[i] ^^^ (1#8 <<< k))) % 256 ≠ 0xFF :=
    hsum ▸ byteSum_set_mod_ne hi (xor_bit_ne hk f[i])
  have hne : f.set i (f[i] ^^^ (1#8 <<< k)) ≠ [] := by simpa using hf
  exact ⟨_, List.length_set (as := f) ▸ validateResponse_of_byteSum_ne hne hflip⟩

end Sys2Proof.Machine
end

section
/-! PROOFS. The dispatcher family (41_dispatcher R130 to R141): the START request at the host port, the received
byte and the transport error. -/

namespace Sys2Proof.Machine

/-! ### START at the host port (R130 to R133) -/

/-- A write to CTRL with bit 0 = 1 is a START request (R28). -/
theorem hostWrite_CTRL_start {v : Byte} (hv : v.getLsbD 0 = true) (s : State) :
    hostWrite 0x009 v s = start s := by
  have hreg : regAt 0x009 = .ctrl := regAt_CTRL
  have hstart : startBit v = true := hv
  rw [hostWrite, hreg, writeReg, if_pos hstart]

theorem start_illegal {s : State} (h : s.phase = .idle) (hc : commandOf s.args.opcode = none) :
    start s = illegalStart s := by
  simp [start, h, hc]

/-- Settles O25: an opcode outside the table names no command, so the START is an illegal one. -/
theorem illegalOpcodeStart : Obligations.IllegalOpcodeStart := by
  intro v s hidle hv hop
  have hc : commandOf s.args.opcode = none := by
    rwa [commandOf_eq_none, ← not_exists, ← mem_opcodes]
  rw [hostWrite_CTRL_start hv, start_illegal hidle hc]
  rfl

/-- While a command is in flight a host write does not reach it: it writes an argument register, requests a
START that is lost, or is ignored (R51, R130). -/
theorem hostWrite_view_of_busy {s : State} (hbusy : s.phase ≠ .idle) (a : HostAddr) (w : Byte) :
    (hostWrite a w s).view = s.view := by
  rcases hostWrite_cases a w s with ⟨r, hargs⟩ | ⟨-, -, hstart⟩ | hsame
  · rw [hargs]
    rfl
  · rw [hstart, start_busy hbusy]
  · rw [hsame]

/-- Settles O26: the START is accepted, and the phase TX it enters shuts the command off from the host. -/
theorem acceptedStart : Obligations.AcceptedStart := by
  intro v c s hidle hv hop hlink
  have hc : commandOf s.args.opcode = some c := commandOf_eq_some.mpr hop
  have haccept : hostWrite 0x009 v s = acceptStart c s := by
    rw [hostWrite_CTRL_start hv, start_accept hidle hlink hc]
  have hbusy : (acceptStart c s).phase ≠ .idle := by simp
  rw [haccept]
  exact ⟨rfl, hostWrite_view_of_busy hbusy⟩

/-- Settles O27: the START finds the link down. (Under `Dispatcher`, as `linkDownStart` is the model's event.) -/
theorem Dispatcher.linkDownStart : Obligations.LinkDownStart := by
  intro v c s hidle hv hop hlink
  have hc : commandOf s.args.opcode = some c := commandOf_eq_some.mpr hop
  rw [hostWrite_CTRL_start hv, start_linkDown hidle hlink hc]
  rfl

/-! ### The received byte (R138, R139) -/

theorem rxByte_store {s : State} (b : Byte) (hwindow : captures s = true) (hroom : s.rxCount < 250)
    (hopen : ¬ (s.phase = .read ∧ s.rxCount + 1 = s.expLen)) :
    rxByte b s = .next (storeByte b s hroom) := by
  rw [rxByte, if_pos hwindow, dif_pos hroom, if_neg hopen]

theorem rxByte_fill {s : State} (b : Byte) (hwindow : captures s = true) (hroom : s.rxCount < 250)
    (hread : s.phase = .read) (hfull : s.rxCount + 1 = s.expLen) :
    rxByte b s = finish (captured s ++ [b]) (storeByte b s hroom) := by
  rw [rxByte, if_pos hwindow, dif_pos hroom, if_pos ⟨hread, hfull⟩]

theorem rxByte_discard {s : State} (b : Byte) (hclosed : captures s = false) : rxByte b s = .next s := by
  simp [rxByte, hclosed]

/-- The capture window is closed in IDLE, in TX and when the buffer is full (R40). -/
theorem captures_eq_false {s : State} (h : s.phase = .idle ∨ s.phase = .tx ∨ s.rxCount = s.expLen) :
    captures s = false := by
  rw [← Bool.not_eq_true, captures_iff]
  rintro ⟨hphase, hless⟩
  rcases h with hidle | htx | hfull
  · simp [hidle] at hphase
  · simp [htx] at hphase
  · omega

/-- Settles O31: stored in the open window, checked when it fills the buffer in READ, discarded in the
closed one. -/
theorem receivedByteIsStoredOrDiscarded : Obligations.ReceivedByteIsStoredOrDiscarded := by
  intro b s
  refine ⟨fun hroom hphase hless => ?_, fun hclosed => rxByte_discard b (captures_eq_false hclosed)⟩
  have hwindow : captures s = true := captures_iff.mpr ⟨hphase, hless⟩
  exact ⟨rxByte_store b hwindow hroom, rxByte_fill b hwindow hroom⟩

/-! ### The transport error (R141) -/

/-- Settles O33: in flight `t_err` is a completion. -/
theorem transportErrorEndsTheCommand : Obligations.TransportErrorEndsTheCommand := by
  intro s
  rcases tErr_cases s with ⟨hidle, hsame⟩ | ⟨hbusy, hdone⟩
  · exact ⟨absurd hidle, fun _ => congrArg Host.Outcome.next hsame⟩
  · exact ⟨fun _ => congrArg Host.Outcome.next hdone, fun hidle => absurd hidle hbusy⟩

end Sys2Proof.Machine
end

section
/-! PROOFS. The configuration-memory family (43_config_commands R181): the extra validation of
SetConfigData. -/

namespace Sys2Proof.Machine

/-! ### Completion of a reply that passes the frame checks (R142) -/

/-- A reply of the expected length that starts with the latched opcode and ends with its checksum is
decided by the command's own check, which also gives ACK. -/
theorem finish_wellFormed {c : Command} {rest raw : List Byte} {s : State} (hop : s.curOp = opcodeOf c)
    (hraw : raw = opcodeOf c :: rest ++ [csum (opcodeOf c :: rest)]) (hlen : s.expLen = raw.length) :
    finish raw s = .next (complete (extra c raw s).1 { s with ack := (extra c raw s).2 }) := by
  have hvalid : validateResponse s.curOp raw s.expLen = some (.ok raw) := by
    rw [hop, hlen, hraw, validateResponse_wellFormed]
  have hcommand : commandOf s.curOp = some c := commandOf_eq_some.mpr hop
  simp only [finish, hvalid, hcommand]

/-! ### SetConfigData: the address echo, then the ack byte (R181) -/

theorem extra_setConfigData_of_addr_ne {op a k c : Byte} {s : State} (ha : a ≠ s.curAddr) :
    extra .setConfigData [op, a, k, c] s = (.addressMismatch, s.ack) :=
  if_pos ha

/-- With the address echoed, ACK takes the reply's ack byte and that byte decides the code. -/
theorem extra_setConfigData_of_addr_eq {op a k c : Byte} {s : State} (ha : a = s.curAddr) :
    extra .setConfigData [op, a, k, c] s = (if k = 0 then .ok else .deviceNack, k) := by
  have hack : extra .setConfigData [op, a, k, c] s = if k = 0 then (.ok, k) else (.deviceNack, k) :=
    if_neg (not_not.mpr ha)
  rw [hack]
  split_ifs <;> rfl

/-- Settles O35: the reply passes the frame checks (`finish_wellFormed`), so SetConfigData's own check
decides, by the address echo and then by the ack byte. -/
theorem setConfigDataChecksAddressThenAck : Obligations.SetConfigDataChecksAddressThenAck := by
  intro a k s hop hlen
  rw [finish_wellFormed (c := .setConfigData) (rest := [a, k]) (raw := [0x88#8, a, k, csum [0x88#8, a, k]])
    hop rfl hlen]
  by_cases ha : a = s.curAddr
  · rw [extra_setConfigData_of_addr_eq ha, if_neg (not_not.mpr ha)]
    by_cases hk : k = 0
    · rw [if_pos hk, if_pos hk, hk]
    · rw [if_neg hk, if_neg hk]
  · rw [extra_setConfigData_of_addr_ne ha, if_pos ha]

end Sys2Proof.Machine
end

section
/-! PROOFS. Decoding (30_encoding R81, R85): the decoder and the encoder undo each other, and a table word is
completed to the frame of its row. -/

namespace Sys2Proof

open Machine

/-! ### Encoding, then decoding -/

theorem decode_buildRequest {op : Byte} {f : Vector Byte 5} {c : Command} {i : Instr}
    (hop : commandOf op = some c) (hfields : readFields c f[0] f[1] f[2] f[3] f[4] = .ok i) :
    decode (buildRequest op f).toList = .ok i := by
  rw [buildRequest_toList]
  simp only [decode, hop, hfields, if_true]

theorem wellFormed_goto {u : Byte} {pos : Nat} : (Instr.goto u pos).WellFormed ↔ pos < 65536 :=
  decide_eq_true_iff

/-- The fields an instruction writes are read back as its operands (R82). -/
theorem readFields_fields {i : Instr} (hi : i.WellFormed) :
    readFields i.command (fields i.command i.args)[0] (fields i.command i.args)[1]
      (fields i.command i.args)[2] (fields i.command i.args)[3] (fields i.command i.args)[4] = .ok i := by
  cases i with
  | goto u pos =>
    have hpos := wellFormed_goto.mp hi
    simp [readFields, fields, Instr.command, Instr.args]
    omega
  | init u | stop u => simp [readFields, fields, Instr.command, Instr.args]
  | gstat | gpos | getcfg | setcfg => rfl

theorem commandOf_args (i : Instr) : commandOf i.args.opcode = some i.command := by
  cases i <;> rfl

/-- Settles O10: the opcode of the frame names the command, and its fields are read back. -/
theorem encodedInstructionDecodesBack : Obligations.EncodedInstructionDecodesBack :=
  fun i hi => decode_buildRequest (commandOf_args i) (readFields_fields hi)

/-! ### Decoding, then encoding -/

/-- Everything a frame that decodes must be (R85): seven bytes, a legal opcode, readable fields and their
checksum. -/
theorem decode_eq_ok {f : List Byte} {i : Instr} (h : decode f = .ok i) :
    ∃ c b1 b2 b3 b4 b5, readFields c b1 b2 b3 b4 b5 = .ok i ∧
      f = (buildRequest (opcodeOf c) #v[b1, b2, b3, b4, b5]).toList := by
  unfold decode at h
  split at h
  case h_2 => cases h
  case h_1 b0 b1 b2 b3 b4 b5 b6 =>
    split at h
    · cases h
    next c hop =>
      split at h
      · cases h
      next j hfields =>
        split_ifs at h with hsum
        cases h
        obtain rfl := commandOf_eq_some.mp hop
        exact ⟨c, b1, b2, b3, b4, b5, hfields, by rw [hsum, buildRequest_toList]; rfl⟩

/-- A target of two bytes fits 16 bits and is split into them (R24, R82). -/
theorem bytes_of_target (lo hi : Byte) :
    lo.toNat + 256 * hi.toNat < 65536 ∧ BitVec.ofNat 8 ((lo.toNat + 256 * hi.toNat) % 256) = lo ∧
      BitVec.ofNat 8 ((lo.toNat + 256 * hi.toNat) / 256) = hi := by
  refine ⟨by omega, ?_, ?_⟩ <;> bv_omega

/-- What the fields of an instruction read back are: its own, with every fixed and complement byte right
(R82, R85). -/
theorem readFields_eq_ok {c : Command} {b1 b2 b3 b4 b5 : Byte} {i : Instr}
    (h : readFields c b1 b2 b3 b4 b5 = .ok i) :
    i.WellFormed ∧ i.command = c ∧ fields c i.args = #v[b1, b2, b3, b4, b5] := by
  cases c with
  | init | stop =>
    simp only [readFields] at h
    split_ifs at h with hfixed hcompl
    cases h
    push Not at hfixed hcompl
    exact ⟨rfl, rfl, by simp [fields, Instr.args, hfixed, hcompl]⟩
  | gotoPosition =>
    simp only [readFields] at h
    split_ifs at h with hfixed hcompl
    cases h
    push Not at hfixed hcompl
    obtain ⟨hrange, hlo, hhi⟩ := bytes_of_target b2 b3
    exact ⟨wellFormed_goto.mpr hrange, rfl, by simp only [fields, Instr.args, hfixed, hcompl, hlo, hhi]⟩
  | setConfigData =>
    cases h
    exact ⟨rfl, rfl, rfl⟩
  | getStatus | getPosition | getConfigMemory =>
    simp only [readFields] at h
    split_ifs at h with hfixed
    cases h
    push Not at hfixed
    exact ⟨rfl, rfl, by simp [fields, hfixed]⟩

theorem args_opcode (i : Instr) : i.args.opcode = opcodeOf i.command := by
  cases i <;> rfl

/-- Settles O11: a frame that decodes is a built request whose fields are the instruction's own. -/
theorem decodedFrameIsTheEncoding : Obligations.DecodedFrameIsTheEncoding := by
  intro f i h
  obtain ⟨c, b1, b2, b3, b4, b5, hread, rfl⟩ := decode_eq_ok h
  obtain ⟨hwf, rfl, hfields⟩ := readFields_eq_ok hread
  exact ⟨hwf, by rw [encode, requestOf, args_opcode, hfields]⟩

/-- Settles O13: each written frame is evaluated. -/
theorem writtenFramesDecode : Obligations.WrittenFramesDecode := by
  unfold Obligations.WrittenFramesDecode
  decide

/-! ### Words of the opcode table (R81) -/

theorem tableWord_full {w : Nat} (hw : w < 2 ^ 56) : tableWord 56 w = w := by
  rw [tableWord, Nat.mod_eq_of_lt hw]
  rfl

/-- Every mask covers byte 0, so a word that matches a row starts with the row's opcode. -/
theorem opcode_of_match {r : TableRow} (hr : r ∈ tableRows) {w : Nat} (hw : w &&& r.mask = r.value) :
    w >>> 48 &&& 0xFF = r.value >>> 48 := by
  have hmask : ∀ q ∈ tableRows, q.mask >>> 48 = 0xFF := by simp [tableRows]
  rw [← hw, Nat.shiftRight_and_distrib, hmask r hr]

/-- The opcodes of two rows differ, so no word matches both. -/
theorem tableRows_exclusive :
    tableRows.Pairwise fun r q => ∀ w : Nat, ¬ (w &&& r.mask = r.value ∧ w &&& q.mask = q.value) := by
  have hopcodes : tableRows.Pairwise fun r q => r.value >>> 48 ≠ q.value >>> 48 := by
    simp [tableRows]
  refine hopcodes.imp_of_mem ?_
  rintro r q hr hq hne w ⟨hwr, hwq⟩
  exact hne ((opcode_of_match hr hwr).symm.trans (opcode_of_match hq hwq))

/-- In a list whose members exclude each other, the search finds the member that matches. -/
theorem find?_eq_some_of_exclusive {α : Type} {p : α → Bool} {l : List α}
    (hl : l.Pairwise fun a b => ¬ (p a = true ∧ p b = true)) {a : α} (ha : a ∈ l) (hp : p a = true) :
    l.find? p = some a := by
  induction l with
  | nil => cases ha
  | cons b l ih =>
    obtain ⟨hb, hl⟩ := List.pairwise_cons.mp hl
    rcases List.mem_cons.mp ha with rfl | ha
    · exact List.find?_cons_of_pos hp
    · have hnot : ¬ p b = true := fun hpb => hb a ha ⟨hpb, hp⟩
      rw [List.find?_cons_of_neg hnot, ih hl ha]

/-- A word that matches a row is completed to the frame of the row's instruction (log 9). -/
theorem tableFrame_of_match {r : TableRow} (hr : r ∈ tableRows) {w : Nat} (hlt : w < 2 ^ 56)
    (hw : w &&& r.mask = r.value) : tableFrame 56 w = encode (r.read w) := by
  have hfind : tableRows.find? (fun q => w &&& q.mask == q.value) = some r := by
    refine find?_eq_some_of_exclusive (tableRows_exclusive.imp fun hex => ?_) hr (beq_iff_eq.mpr hw)
    simpa only [beq_iff_eq] using hex w
  simp only [tableFrame, tableWord_full hlt, hfind]

theorem tableRow_read_wellFormed {r : TableRow} (hr : r ∈ tableRows) (w : Nat) :
    (r.read w).WellFormed := by
  have htarget := (bytes_of_target (wordByte w 2) (wordByte w 3)).1
  simp only [tableRows, List.mem_cons, List.not_mem_nil, or_false] at hr
  rcases hr with rfl | rfl | rfl | rfl | rfl | rfl | rfl
  case inr.inr.inr.inr.inl => exact wellFormed_goto.mpr htarget
  all_goals rfl

/-- Settles O12: the word is completed to its row's frame, which decodes to the row's instruction (O10). -/
theorem tableWordsDecodeToTheirRow : Obligations.TableWordsDecodeToTheirRow := by
  refine ⟨fun r hr w hlt hw => ?_, tableRows_exclusive⟩
  rw [decodeTableWord, tableFrame_of_match hr hlt hw,
    encodedInstructionDecodesBack _ (tableRow_read_wellFormed hr w)]
  rfl

end Sys2Proof
end

section
/-! PROOFS. The register map (10_state R21) and the host's operations on it (20_memory R51, 30_encoding R92). -/

namespace Sys2Proof.Machine

/-! ### The register map -/

/-- The register map read backwards: the one address of a register, none for the reserved ranges (R21). -/
def HostReg.address : HostReg → Option HostAddr
  | .opcode => some aOPCODE
  | .unit => some aUNIT
  | .posLo => some aPOS_LO
  | .posHi => some aPOS_HI
  | .addr => some aADDR
  | .data0 => some aDATA0
  | .data1 => some aDATA1
  | .data2 => some aDATA2
  | .data3 => some aDATA3
  | .ctrl => some aCTRL
  | .status => some aSTATUS
  | .result => some aRESULT
  | .ack => some aACK
  | .respLen => some aRESP_LEN
  | .expLen => some aEXP_LEN
  | .txf i => some (BitVec.ofNat 9 (0x010 + i))
  | .resp i => some (BitVec.ofNat 9 (0x100 + i))
  | .reserved => none

/-- What stands above EXP_LEN (R21). -/
theorem bufferAt_cases (n : Nat) :
    (∃ i : Fin 7, n = 0x010 + i ∧ bufferAt n = .txf i) ∨
    (∃ i : Fin 250, n = 0x100 + i ∧ bufferAt n = .resp i) ∨ bufferAt n = .reserved := by
  unfold bufferAt
  split_ifs with htxf hresp
  · exact .inl ⟨_, by simp only; omega, rfl⟩
  · exact .inr (.inl ⟨_, by simp only; omega, rfl⟩)
  · exact .inr (.inr rfl)

theorem regAt_eq_bufferAt {a : HostAddr} (ha : 0x00F ≤ a.toNat) : regAt a = bufferAt a.toNat := by
  unfold regAt
  split
  case h_16 => rfl
  all_goals omega

theorem regAt_txf (i : Fin 7) : regAt (BitVec.ofNat 9 (0x010 + i)) = .txf i := by
  have hnat : (BitVec.ofNat 9 (0x010 + i.val)).toNat = 0x010 + i := by
    rw [BitVec.toNat_ofNat]
    omega
  rw [regAt_eq_bufferAt (by omega), hnat, bufferAt, dif_pos (by omega)]
  exact congrArg HostReg.txf (Fin.ext (Nat.add_sub_cancel_left 0x010 i))

theorem regAt_resp (i : Fin 250) : regAt (BitVec.ofNat 9 (0x100 + i)) = .resp i := by
  have hnat : (BitVec.ofNat 9 (0x100 + i.val)).toNat = 0x100 + i := by
    rw [BitVec.toNat_ofNat]
    omega
  rw [regAt_eq_bufferAt (by omega), hnat, bufferAt, dif_neg (by omega), dif_pos (by omega)]
  exact congrArg HostReg.resp (Fin.ext (Nat.add_sub_cancel_left 0x100 i))

/-- A register stands at its own address only. -/
theorem address_regAt {a : HostAddr} (ha : regAt a ≠ .reserved) : (regAt a).address = some a := by
  by_cases hbuffer : 0x00F ≤ a.toNat
  · rw [regAt_eq_bufferAt hbuffer] at ha ⊢
    rcases bufferAt_cases a.toNat with ⟨i, hi, e⟩ | ⟨i, hi, e⟩ | e
    · rw [e, HostReg.address, ← hi, BitVec.ofNat_toNat, BitVec.setWidth_eq]
    · rw [e, HostReg.address, ← hi, BitVec.ofNat_toNat, BitVec.setWidth_eq]
    · exact absurd e ha
  · have hlow : ∀ n : Fin 0x00F,
        (regAt (BitVec.ofNat 9 n.val)).address = some (BitVec.ofNat 9 n.val) := by decide
    simpa using hlow ⟨a.toNat, by omega⟩

theorem regAt_eq_ctrl {a : HostAddr} (ha : regAt a = .ctrl) : a = aCTRL := by
  have h := address_regAt (a := a) (by simp [ha])
  rw [ha] at h
  exact (Option.some.inj h).symm

/-! ### Reserved and read-only addresses (R51) -/

/-- From STATUS up no address takes a write. -/
theorem hostWrite_ignored {a : HostAddr} (ha : 10 ≤ a.toNat) (v : Byte) (s : State) :
    hostWrite a v s = s := by
  unfold hostWrite
  by_cases hbuffer : 0x00F ≤ a.toNat
  · rw [regAt_eq_bufferAt hbuffer]
    rcases bufferAt_cases a.toNat with ⟨i, -, e⟩ | ⟨i, -, e⟩ | e <;> rw [e] <;> rfl
  · have hlow : ∀ n : Fin 0x00F, 10 ≤ n.val →
        regAt (BitVec.ofNat 9 n.val) ∈ [.status, .result, .ack, .respLen, .expLen] := by decide
    have hreg : regAt a ∈ [.status, .result, .ack, .respLen, .expLen] := by
      simpa using hlow ⟨a.toNat, by omega⟩ ha
    simp only [List.mem_cons, List.not_mem_nil, or_false] at hreg
    rcases hreg with e | e | e | e | e <;> rw [e] <;> rfl

theorem regAt_reserved {a : HostAddr}
    (ha : a.toNat = 0x00F ∨ (0x017 ≤ a.toNat ∧ a.toNat ≤ 0x0FF) ∨ 0x1FA ≤ a.toNat) :
    regAt a = .reserved := by
  rw [regAt_eq_bufferAt (by omega), bufferAt, dif_neg (by omega), dif_neg (by omega)]

/-- Settles O40: CTRL has no storage, and the reserved ranges name no register. -/
theorem readOnlyAndReservedAddresses : Obligations.ReadOnlyAndReservedAddresses := by
  refine fun a v s => ⟨fun ha => hostWrite_ignored ha v s, ?_⟩
  rintro (hctrl | hreserved)
  · obtain rfl : a = aCTRL := BitVec.eq_of_toNat_eq hctrl
    rw [readAt, regAt_CTRL]
    rfl
  · rw [readAt, regAt_reserved hreserved]
    rfl

/-! ### Argument registers (R22 to R27) -/

/-- The nine argument registers. -/
def argumentRegs : List HostReg :=
  [.opcode, .unit, .posLo, .posHi, .addr, .data0, .data1, .data2, .data3]

theorem regAt_mem_argumentRegs {a : HostAddr} (ha : a.toNat ≤ 8) : regAt a ∈ argumentRegs := by
  have hlow : ∀ n : Fin 9, regAt (BitVec.ofNat 9 n.val) ∈ argumentRegs := by decide
  simpa using hlow ⟨a.toNat, by omega⟩

/-- A write to an argument register is read back from it, is read nowhere else and is outside the command's
own state. -/
theorem writeReg_argument {r : HostReg} (hr : r ∈ argumentRegs) (v : Byte) (s : State) :
    readReg r (writeReg r v s) = v ∧ (∀ q, q ≠ r → readReg q (writeReg r v s) = readReg q s) ∧
      (writeReg r v s).view = s.view := by
  simp only [argumentRegs, List.mem_cons, List.not_mem_nil, or_false] at hr
  rcases hr with rfl | rfl | rfl | rfl | rfl | rfl | rfl | rfl | rfl <;>
    exact ⟨rfl, fun q hq => by cases q <;> simp_all [readReg, writeReg], rfl⟩

/-- Settles O39: the address names an argument register, and two addresses name one register only where they
are equal. -/
theorem argumentRegistersReadBack : Obligations.ArgumentRegistersReadBack := by
  intro a b v s ha
  have hr := regAt_mem_argumentRegs ha
  obtain ⟨hsame, hother, hview⟩ := writeReg_argument hr v s
  refine ⟨_, rfl, hsame, fun hb => hother _ fun hreg => hb ?_, hview⟩
  have hnamed : regAt a ≠ .reserved := fun e => by simp [e, argumentRegs] at hr
  exact Option.some.inj <| calc
    some b = (regAt b).address := (address_regAt (hreg ▸ hnamed)).symm
    _ = (regAt a).address := by rw [hreg]
    _ = some a := address_regAt hnamed

/-! ### Reads -/

/-- Settles O41: a host read is the model's `hostRead`. -/
theorem hostReadHasNoSideEffect : Obligations.HostReadHasNoSideEffect := fun _ _ => rfl

/-- Settles O42: each address is looked up in the register map. -/
theorem readOnlyRegistersRead : Obligations.ReadOnlyRegistersRead := by
  intro s
  refine ⟨?_, rfl, rfl, rfl, fun i => ?_, fun i => ?_⟩
  · have hreg : regAt 0x00B = .result := regAt_RESULT
    rw [readAt, hreg, readReg]
    cases s.result <;> rfl
  · rw [readAt, regAt_txf]
    rfl
  · rw [readAt, regAt_resp]
    rfl

/-- The bits of STATUS (R29). -/
theorem statusByte_getLsbD (s : State) (k : Nat) :
    (statusByte s).getLsbD k = match k with
      | 0 => s.busy
      | 1 => s.done
      | 2 => s.link
      | _ + 3 => false := by
  have hbits : ∀ b d l : Bool, ∀ k : Fin 8,
      (BitVec.ofNat 8 (b.toNat + 2 * d.toNat + 4 * l.toNat)).getLsbD k.val =
        match k.val with
        | 0 => b
        | 1 => d
        | 2 => l
        | _ + 3 => false := by decide
  by_cases hk : k < 8
  · exact hbits s.busy s.done s.link ⟨k, hk⟩
  · obtain ⟨j, rfl⟩ : ∃ j, k = j + 3 := ⟨k - 3, by omega⟩
    exact BitVec.getLsbD_of_ge _ _ (by omega)

/-- Settles O43: the bits of STATUS, of which BUSY and DONE exclude each other where the invariant holds. -/
theorem statusBits : Obligations.StatusBits := by
  intro s
  have hread : readAt 0x00A s = statusByte s := readAt_STATUS s
  have hbusy : (statusByte s).getLsbD 0 = true ↔ s.phase ≠ .idle := by
    rw [statusByte_getLsbD]
    exact decide_eq_true_iff
  have hdone : (statusByte s).getLsbD 1 = s.done := statusByte_getLsbD s 1
  rw [hread]
  refine ⟨hbusy, hdone, statusByte_getLsbD s 2, fun k hk => ?_, ?_⟩
  · obtain ⟨j, rfl⟩ : ∃ j, k = j + 3 := ⟨k - 3, by omega⟩
    exact statusByte_getLsbD s (j + 3)
  · rintro hinv ⟨h0, h1⟩
    obtain ⟨hopen, -, -⟩ := hinv.open_result (hbusy.mp h0)
    rw [hdone, hopen] at h1
    cases h1

/-! ### CTRL (R28, R130) -/

/-- A CTRL write without bit 0 requests nothing (R28). -/
theorem hostWrite_CTRL_ignored {v : Byte} (hv : v.getLsbD 0 = false) (s : State) :
    hostWrite 0x009 v s = s := by
  have hreg : regAt 0x009 = .ctrl := regAt_CTRL
  have hstart : startBit v = false := hv
  rw [hostWrite, hreg, writeReg, hstart]
  rfl

/-- Settles O24: no START is requested, or the START is lost. -/
theorem lostStartLeavesNoTrace : Obligations.LostStartLeavesNoTrace := by
  refine fun v s => ⟨fun hv => hostWrite_CTRL_ignored hv s, fun hv hbusy => ?_⟩
  rw [hostWrite_CTRL_start hv, start_busy hbusy]

/-! ### Reset (R230) -/

/-- Reset makes 0 what every register reads but STATUS, which keeps LINK, and RESP, which is drawn (R42). -/
theorem readReg_resetBlock {r : HostReg} (hstatus : r ≠ .status) (hresp : ∀ i, r ≠ .resp i) (s : State) :
    readReg r (resetBlock s) = 0 := by
  cases r <;> simp_all [readReg, ArgRegs.zero, ResultCode.code]

/-- Settles O45: every register below RESP but STATUS reads a field that reset makes 0. -/
theorem resetRestoresEveryRegister : Obligations.ResetRestoresEveryRegister := by
  refine fun s => ⟨_, rfl, fun a ha hstatus => ?_, ?_, rfl, fun i => ?_, rfl, rfl, rfl, rfl, rfl, rfl, rfl,
    rfl, rfl, rfl, rfl⟩
  · have hnamed {r : HostReg} (hr : regAt a = r) (hres : r ≠ .reserved) : r.address = some a :=
      hr ▸ address_regAt (hr ▸ hres)
    refine readReg_resetBlock (fun hreg => ?_) (fun i hreg => ?_) s
    · exact hstatus (Option.some.inj (hnamed hreg (by simp))).symm
    · obtain rfl := Option.some.inj (hnamed hreg (by simp))
      rw [BitVec.toNat_ofNat] at ha
      omega
  · change statusByte (resetBlock s) = _
    cases hl : s.link <;> simp [statusByte, State.busy, hl]
  · simp [drawResp]

end Sys2Proof.Machine
end

section
/-! PROOFS. The seven instructions (30_encoding R93): the step that runs one, and what it does on an idle and on
a busy block. -/

namespace Sys2Proof.Machine

/-! ### Steps that run an instruction -/

/-- Settles O14: the step takes the head of the inbox, and a request runs what it decodes to. -/
theorem stepRunsTheDecodedInstruction : Obligations.StepRunsTheDecodedInstruction := by
  intro s frame rest hinbox
  rw [step_cons hinbox]
  exact ⟨fun i hi => by simp only [takeInput, hi], fun e he => by simp only [takeInput, he]⟩

/-- Settles O15: the placed word stands at the head of the inbox, and taking it leaves the state itself. -/
theorem placedTableWordRunsNext : Obligations.PlacedTableWordRunsNext := by
  intro s nbits w i hw
  have hdecode : decode (tableFrame nbits w) = .ok i := by
    unfold decodeTableWord at hw
    cases h : decode (tableFrame nbits w) with
    | error e => simp [h, Except.toOption] at hw
    | ok j => simpa [h, Except.toOption] using hw
  exact (stepRunsTheDecodedInstruction (s.withFetchWord nbits w) _ s.inbox rfl).1 i hdecode

/-- Settles O22: `exec` runs the same primitives on the same addresses. -/
theorem mnemonicIsItsExpansion : Obligations.MnemonicIsItsExpansion := fun _ =>
  ⟨fun _ => rfl, fun _ => rfl, fun _ _ => rfl, rfl, rfl, fun _ _ _ _ _ => rfl, rfl⟩

/-! ### The three fates of an instruction's START (R130, R132, R133) -/

theorem exec_of_start {i : Instr} {s t : State} (h : start (setArgs (argsAfter i s.args) s) = t) :
    exec i s = .next (waitDone t) := by
  rw [exec_eq, h]

theorem exec_accept (i : Instr) {s : State} (hidle : s.phase = .idle) (hlink : s.link = true) :
    exec i s = .next (waitDone (acceptStart i.command (setArgs (argsAfter i s.args) s))) :=
  exec_of_start (start_accept hidle hlink (commandOf_argsAfter i s.args))

theorem exec_linkDown (i : Instr) {s : State} (hidle : s.phase = .idle) (hlink : s.link = false) :
    exec i s = .next (waitDone (linkDownStart i.command (setArgs (argsAfter i s.args) s))) :=
  exec_of_start (start_linkDown hidle hlink (commandOf_argsAfter i s.args))

theorem exec_busy (i : Instr) {s : State} (hbusy : s.phase ≠ .idle) :
    exec i s = .next (waitDone (setArgs (argsAfter i s.args) s)) :=
  exec_of_start (start_busy hbusy)

/-- The opcode an instruction writes is its command's (R84, R93). -/
theorem argsAfter_opcode (i : Instr) (r : ArgRegs) : (argsAfter i r).opcode = opcodeOf i.command :=
  commandOf_eq_some.mp (commandOf_argsAfter i r)

/-- A turn of WAITDONE in full (R92). -/
theorem waitDone_eq (s : State) :
    waitDone s = { s with rdata := statusByte s, host := if s.done then .ready else .waiting } := by
  rw [waitDone, doneBit_statusByte, hostRead, readAt_STATUS]

/-- An accepted instruction sends its encoding; the host's first read of STATUS sees BUSY and LINK. -/
theorem exec_sends {i : Instr} {s : State} {f : Vector Byte 7} (hidle : s.phase = .idle)
    (hlink : s.link = true) (hf : encode i = f.toList) :
    exec i s = .next (accepted s (argsAfter i s.args) f (respLen i.command)) := by
  have hframe : requestOf i.command (argsAfter i s.args) = f :=
    Vector.toList_inj.mp ((requestOf_argsAfter i s.args).trans hf)
  have hstatus : statusByte (acceptStart i.command (setArgs (argsAfter i s.args) s)) = 0x05#8 := by
    simp [statusByte, State.busy, hlink]
  rw [exec_accept i hidle hlink, waitDone_eq, hstatus, ← hframe]
  rfl

/-- Settles O16: accepted, with the frames of R161 and R162. -/
theorem initAndStopSendTheirFrame : Obligations.InitAndStopSendTheirFrame := fun u _ hidle hlink =>
  ⟨exec_sends hidle hlink (encode_init u), exec_sends hidle hlink (encode_stop u)⟩

/-- Settles O17: accepted, and the target's bytes are `lo` and `hi`. -/
theorem gotoSendsItsFrame : Obligations.GotoSendsItsFrame := by
  intro u lo hi s hidle hlink
  obtain ⟨-, hlo, hhi⟩ := bytes_of_target lo hi
  have hframe := encode_goto u (lo.toNat + 256 * hi.toNat)
  rw [hlo, hhi] at hframe
  have hargs : argsAfter (.goto u (lo.toNat + 256 * hi.toNat)) s.args =
      { s.args with opcode := 0x0F#8, unit := u, posLo := lo, posHi := hi } := by
    simp only [argsAfter, posLowByte, posHighByte, hlo, hhi]
  rw [← hargs]
  exact exec_sends hidle hlink hframe

/-- Settles O18: accepted, and the frame holds no argument register. -/
theorem readCommandsSendTheirFixedFrame : Obligations.ReadCommandsSendTheirFixedFrame := by
  intro s hidle hlink
  obtain ⟨-, -, -, -, -, hgstat, hgpos, hgetcfg⟩ := requestFrameOfEveryInstruction
  exact ⟨exec_sends hidle hlink hgstat, exec_sends hidle hlink hgpos, exec_sends hidle hlink hgetcfg⟩

/-- Settles O19: accepted, with the frame of R180. -/
theorem setcfgSendsItsFrame : Obligations.SetcfgSendsItsFrame := fun a d0 d1 d2 d3 _ hidle hlink =>
  exec_sends hidle hlink (encode_setcfg a d0 d1 d2 d3)

/-- Settles O20: the START finds the link down, and the host's first read of STATUS sees DONE only. -/
theorem linkDownInstructionFailsUnsent : Obligations.LinkDownInstructionFailsUnsent := by
  intro i s hidle hlink
  refine ⟨requestOf i.command (argsAfter i s.args), requestOf_argsAfter i s.args, ?_⟩
  have hstatus : statusByte (linkDownStart i.command (setArgs (argsAfter i s.args) s)) = 0x02#8 := by
    simp [statusByte, State.busy, hidle, hlink]
  rw [exec_linkDown i hidle hlink, waitDone_eq, hstatus, ← argsAfter_opcode i s.args]
  rfl

/-- Settles O21: the START is lost. -/
theorem busyInstructionLosesItsStart : Obligations.BusyInstructionLosesItsStart := by
  intro i s hbusy
  rw [exec_busy i hbusy, waitDone_eq]
  rfl

/-! ### The frame of an instruction (R27, R35) -/

/-- The argument registers an instruction does not name keep their value (R93). -/
theorem argsAfter_frame (i : Instr) (r : ArgRegs) :
    (i.command ∈ [.getStatus, .getPosition, .getConfigMemory] →
      argsAfter i r = { r with opcode := opcodeOf i.command }) ∧
    (i.command ∈ [.init, .stop] →
      argsAfter i r = { r with opcode := opcodeOf i.command, unit := (argsAfter i r).unit }) ∧
    (i.command = .gotoPosition →
      argsAfter i r = { r with
        opcode := opcodeOf i.command, unit := (argsAfter i r).unit
        posLo := (argsAfter i r).posLo, posHi := (argsAfter i r).posHi }) ∧
    (i.command = .setConfigData →
      argsAfter i r = { argsAfter i r with unit := r.unit, posLo := r.posLo, posHi := r.posHi }) := by
  cases i <;> simp [argsAfter, Instr.command, opcodeOf]

/-- Settles O23: the registers outside the command are kept by START and by WAITDONE, the argument registers
are `argsAfter`, and in flight START does nothing. -/
theorem instructionFrame : Obligations.InstructionFrame := by
  intro i s t h
  rw [exec_eq] at h
  cases h
  obtain ⟨hlink, hsettle, hread, hsent, hinbox, hdraws, -, -⟩ :=
    start_outside (setArgs (argsAfter i s.args) s)
  obtain ⟨hplain, hunit, htarget, hdata⟩ := argsAfter_frame i s.args
  simp only [readReg, waitDone_link, waitDone_settleTimer, waitDone_readTimer, waitDone_sent, waitDone_inbox,
    waitDone_draws, waitDone_resp, waitDone_args, start_resp, start_args, setArgs_resp, setArgs_args]
  refine ⟨fun _ => trivial, hlink, hsettle, hread, hsent, hinbox, hdraws, ?_⟩
  refine ⟨argsAfter_opcode i s.args, hplain, hunit, htarget, hdata, fun hbusy => ?_⟩
  have hlost : start (setArgs (argsAfter i s.args) s) = setArgs (argsAfter i s.args) s := start_busy hbusy
  rw [hlost]
  rfl

end Sys2Proof.Machine
end

section
/-! PROOFS. The dispatcher's events one by one (41_dispatcher R134 to R143), runs of inputs, and what no event of
the dispatcher reads or writes (R27, R144). -/

namespace Sys2Proof.Machine

/-! ### `tx_accept` (R134) -/

theorem txAccept_send {s : State} (htx : s.phase = .tx) (hi : s.txIdx < 7) (h6 : s.txIdx ≠ 6) :
    txAccept s = .next { s with sent := s.sent ++ [s.txf[s.txIdx]], txIdx := s.txIdx + 1 } := by
  rw [txAccept, if_pos htx, dif_pos hi, if_neg h6]

theorem txAccept_last {s : State} (htx : s.phase = .tx) (hi : s.txIdx < 7) (h6 : s.txIdx = 6) :
    txAccept s = .next { s with
      sent := s.sent ++ [s.txf[s.txIdx]]
      txIdx := 7
      phase := .settle
      settleTimer := .running (Config.settleDelay s.curOp) } := by
  rw [txAccept, if_pos htx, dif_pos hi, if_pos h6]

/-- Settles O28: the byte on `tx_data` goes out, and the seventh opens the settle delay. -/
theorem txAcceptTakesTheNextByte : Obligations.TxAcceptTakesTheNextByte := by
  refine fun s => ⟨fun hi htx => ⟨?_, txAccept_send htx hi, txAccept_last htx hi⟩, fun htx => if_neg htx⟩
  rw [txData, dif_pos ⟨htx, hi⟩]

/-! ### The timers (R137, R140) -/

theorem settleExpire_full {s : State} (hsettle : s.phase = .settle) (hfull : s.rxCount = s.expLen) :
    settleExpire s = finish (captured s) s := by
  rw [settleExpire, if_pos hsettle, if_pos hfull]

theorem settleExpire_open {s : State} (hsettle : s.phase = .settle) (hroom : s.rxCount ≠ s.expLen) :
    settleExpire s = .next { s with
      phase := .read, settleTimer := .stopped, readTimer := .running Config.readTimeout } := by
  rw [settleExpire, if_pos hsettle, if_neg hroom]

/-- Settles O30: a full buffer is checked, any other opens the read. -/
theorem settleExpiryValidatesOrReads : Obligations.SettleExpiryValidatesOrReads :=
  fun _ => ⟨settleExpire_full, settleExpire_open, fun hphase => if_neg hphase⟩

/-- The read timer finds fewer bytes than expected (R140). -/
theorem readTimeout_short {s : State} (hread : s.phase = .read) (hroom : s.rxCount < s.expLen) :
    readTimeout s = .next (complete .lengthMismatch s) := by
  have hshort : (captured s).length < s.expLen := by
    rw [captured_length]
    omega
  rw [readTimeout, if_pos ⟨hread, hroom⟩, finish_short hshort]

/-- Settles O32: the length check of a short buffer. -/
theorem readTimeoutIsLengthMismatch : Obligations.ReadTimeoutIsLengthMismatch :=
  fun _ => ⟨readTimeout_short, fun hclosed => if_neg hclosed⟩

/-- Settles O38: the model's `linkReady` writes the level only. -/
theorem linkLevelAloneChangesNothing : Obligations.LinkLevelAloneChangesNothing := fun _ _ => rfl

/-! ### Runs of inputs -/

theorem runInputs_cons {e : Input} {es : List Input} {s t : State} (h : takeInput e s = .next t) :
    runInputs (e :: es) s = runInputs es t := by
  simp only [runInputs, h]

theorem runInputs_append {es fs : List Input} {s t : State} (h : runInputs es s = .next t) :
    runInputs (es ++ fs) s = runInputs fs t := by
  induction es generalizing s with
  | nil =>
    cases h
    rfl
  | cons e es ih =>
    simp only [runInputs] at h
    split at h
    case h_1 u hu =>
      rw [List.cons_append, runInputs_cons hu, ih h]
    all_goals cases h

theorem drop_txIdx_txf {s : State} (hi : s.txIdx < 7) :
    s.txf.toList.drop s.txIdx = s.txf[s.txIdx] :: s.txf.toList.drop (s.txIdx + 1) := by
  rw [List.drop_eq_getElem_cons (by simpa using hi), Vector.getElem_toList]

/-- The accepts that are left send the bytes of TXF that are left, in index order. -/
theorem run_txAccepts (k : Nat) {s : State} (htx : s.phase = .tx) (hk : s.txIdx + (k + 1) = 7) :
    runInputs (List.replicate (k + 1) .txAccept) s = .next { s with
      sent := s.sent ++ s.txf.toList.drop s.txIdx
      txIdx := 7
      phase := .settle
      settleTimer := .running (Config.settleDelay s.curOp) } := by
  have hi : s.txIdx < 7 := by omega
  induction k generalizing s with
  | zero =>
    have h6 : s.txIdx = 6 := by omega
    have hnone : s.txf.toList.drop (s.txIdx + 1) = [] := List.drop_of_length_le (by simp [h6])
    rw [drop_txIdx_txf hi, hnone]
    exact runInputs_cons (txAccept_last htx hi h6)
  | succ k ih =>
    rw [List.replicate_succ, runInputs_cons (e := .txAccept) (txAccept_send htx hi (by omega)), ih,
      drop_txIdx_txf hi]
    · simp only [List.append_assoc, List.singleton_append]
    · exact htx
    · simp only
      omega
    · simp only
      omega

/-- Settles O29: all seven accepts are left. -/
theorem sevenAcceptsSendTheWholeFrame : Obligations.SevenAcceptsSendTheWholeFrame := by
  intro s htx hzero
  rw [run_txAccepts 6 htx (by omega), hzero, List.drop_zero]

/-! ### What is outside a command: argument registers, link level, host, inputs to come (R27, R143, R144) -/

/-- The command's own state of `s` with everything outside it taken from `q`. -/
def State.withOutside (s q : State) : State :=
  { s with
    args := q.args
    link := q.link
    inbox := q.inbox
    draws := q.draws
    host := q.host
    rdata := q.rdata }

/-- States that agree on the command's own state differ in what is outside it only. -/
theorem eq_withOutside_of_view {s t : State} (h : t.view = s.view) : t = s.withOutside t := by
  cases s
  cases t
  simp only [State.view, CommandView.mk.injEq] at h
  simp only [State.withOutside, h]

/-- A map over the next state of an outcome. -/
def mapNext (f : State → State) :
    Host.Outcome State Fault Refusal → Host.Outcome State Fault Refusal
  | .next t => .next (f t)
  | .fault r => .fault r
  | .refused r => .refused r

theorem extra_withOutside (c : Command) (raw : List Byte) (s q : State) :
    extra c raw (s.withOutside q) = extra c raw s := by
  cases c <;> rfl

theorem finish_withOutside (raw : List Byte) (s q : State) :
    finish raw (s.withOutside q) = mapNext (·.withOutside q) (finish raw s) := by
  have hcheck : validateResponse (s.withOutside q).curOp raw (s.withOutside q).expLen =
      validateResponse s.curOp raw s.expLen := rfl
  have hop : commandOf (s.withOutside q).curOp = commandOf s.curOp := rfl
  simp only [finish, hcheck, hop, extra_withOutside]
  cases validateResponse s.curOp raw s.expLen with
  | none => rfl
  | some v =>
    cases v with
    | ok raw => cases commandOf s.curOp <;> rfl
    | lengthMismatch | checksumMismatch | opcodeMismatch => rfl

/-- An event of the dispatcher neither reads nor writes what is outside the command. -/
theorem takeInput_withOutside {e : Input} (he : isDispatcher e = true) (s q : State) :
    takeInput e (s.withOutside q) = mapNext (·.withOutside q) (takeInput e s) := by
  cases e with
  | txAccept =>
    simp only [takeInput, txAccept, apply_ite (mapNext _), apply_dite (mapNext _)]
    rfl
  | settleExpire =>
    simp only [takeInput, settleExpire, apply_ite (mapNext _), ← finish_withOutside]
    rfl
  | rxByte b =>
    simp only [takeInput, rxByte, apply_ite (mapNext _), apply_dite (mapNext _), ← finish_withOutside]
    rfl
  | readTimeout =>
    simp only [takeInput, readTimeout, apply_ite (mapNext _), ← finish_withOutside]
    rfl
  | tErr =>
    simp only [takeInput, tErr, mapNext, apply_ite (State.withOutside · q)]
    rfl
  | request | host | linkReady | reset => cases he

/-- An event of the dispatcher keeps everything outside the command. -/
theorem dispatcher_keeps_outside {e : Input} {s t : State} (he : isDispatcher e = true)
    (h : takeInput e s = .next t) : t = t.withOutside s := by
  have hframe := takeInput_withOutside he s s
  have hself : s.withOutside s = s := rfl
  rw [hself, h] at hframe
  exact Host.Outcome.next.inj hframe

/-- Settles O53: the argument registers are outside the command. -/
theorem onlyTheHostWritesArguments : Obligations.OnlyTheHostWritesArguments := by
  intro e s t he h
  rw [dispatcher_keeps_outside he h]
  rfl

/-- A dispatcher event does the same in two states that agree on the command's own state. -/
theorem takeInput_of_view_eq {e : Input} {s s' t : State} (he : isDispatcher e = true)
    (hview : s'.view = s.view) (h : takeInput e s = .next t) : takeInput e s' = .next (t.withOutside s') := by
  rw [eq_withOutside_of_view hview, takeInput_withOutside he, h]
  rfl

theorem runHostOp_view_of_busy {s : State} (hbusy : s.phase ≠ .idle) (op : HostOp) :
    (runHostOp op s).view = s.view := by
  cases op with
  | wr a v => exact hostWrite_view_of_busy hbusy a v
  | rd a => rfl
  | waitDone => rfl

/-- Settles O54: a dispatcher event commutes with replacing what is outside the command, and host primitives
and the link level write outside a command in flight only. -/
theorem hostDoesNotReachTheCommandInFlight : Obligations.HostDoesNotReachTheCommandInFlight := by
  refine ⟨fun e s s' t he hview h => ⟨_, takeInput_of_view_eq he hview.symm h, rfl⟩, ?_, ?_⟩
  · intro op s t hbusy h
    cases h
    exact runHostOp_view_of_busy hbusy op
  · intro up s t h
    cases h
    rfl

end Sys2Proof.Machine
end

section
/-! PROOFS. What one input can do to the command (41_dispatcher R130 to R146), said once, and the invariants of
10_state R37, the phase graph and the frames of completion that follow from it. -/

namespace Sys2Proof.Machine

/-! ### Everything an input can do -/

/-- What an input that answers does to the command's own state, one constructor per rule. -/
inductive Move : Input → State → State → Prop
  /-- It does not reach the command: a host access, a lost START, a discarded byte, the link level. -/
  | untouched {e : Input} {s t : State} (hview : t.view = s.view)
      (he : s.phase = .idle ∨ progresses e = false) : Move e s t
  /-- START of no command (R131). -/
  | illegal {e : Input} {s t : State} (he : startsOrResets e = true) (hidle : s.phase = .idle)
      (hview : t.view = (illegalStart s).view) : Move e s t
  /-- START with the link up (R132), the argument registers holding `r`. -/
  | accept {e : Input} {s t : State} {c : Command} (r : ArgRegs) (he : startsOrResets e = true)
      (hidle : s.phase = .idle) (hlink : s.link = true) (hc : commandOf r.opcode = some c)
      (hview : t.view = (acceptStart c (setArgs r s)).view) : Move e s t
  /-- START with the link down (R133). -/
  | linkDown {e : Input} {s t : State} {c : Command} (r : ArgRegs) (he : startsOrResets e = true)
      (hidle : s.phase = .idle) (hc : commandOf r.opcode = some c)
      (hview : t.view = (linkDownStart c (setArgs r s)).view) : Move e s t
  /-- A request byte before the last goes out (R134). -/
  | send {s : State} (htx : s.phase = .tx) (hi : s.txIdx < 6) :
      Move .txAccept s { s with sent := s.sent ++ [s.txf[s.txIdx]], txIdx := s.txIdx + 1 }
  /-- The last request byte goes out (R134). -/
  | sendLast {s : State} (htx : s.phase = .tx) (h6 : s.txIdx = 6) :
      Move .txAccept s { s with
        sent := s.sent ++ [s.txf[s.txIdx]], txIdx := 7, phase := .settle
        settleTimer := .running (Config.settleDelay s.curOp) }
  /-- The settle delay ends with room left (R137). -/
  | openRead {s : State} (hsettle : s.phase = .settle) (hroom : s.rxCount ≠ s.expLen) :
      Move .settleExpire s { s with
        phase := .read, settleTimer := .stopped, readTimer := .running Config.readTimeout }
  /-- The settle delay ends with the buffer full (R137). -/
  | checkFull {s t : State} (hsettle : s.phase = .settle) (hfull : s.rxCount = s.expLen)
      (h : finish (captured s) s = .next t) : Move .settleExpire s t
  /-- A byte is captured (R138). -/
  | store {b : Byte} {s : State} (hwindow : captures s = true) (hk : s.rxCount < 250)
      (hopen : ¬ (s.phase = .read ∧ s.rxCount + 1 = s.expLen)) : Move (.rxByte b) s (storeByte b s hk)
  /-- A byte fills the buffer in the read (R138). -/
  | fill {b : Byte} {s t : State} (hread : s.phase = .read) (hk : s.rxCount < 250)
      (hfull : s.rxCount + 1 = s.expLen) (h : finish (captured s ++ [b]) (storeByte b s hk) = .next t) :
      Move (.rxByte b) s t
  /-- The read ends with bytes missing (R140). -/
  | timeout {s : State} (hread : s.phase = .read) (hroom : s.rxCount < s.expLen) :
      Move .readTimeout s (complete .lengthMismatch s)
  /-- The transport fails (R141). -/
  | fail {s : State} (hbusy : s.phase ≠ .idle) : Move .tErr s (complete .transportError s)
  /-- Reset (R230). -/
  | reset {s : State} : Move .reset s (resetBlock s)

theorem waitDone_view (s : State) : (waitDone s).view = s.view := rfl

/-- A START request after a write of the argument registers (R93, R130). -/
theorem move_of_start {e : Input} {s t : State} (r : ArgRegs) (he : startsOrResets e = true)
    (hprogress : progresses e = false) (hview : t.view = (start (setArgs r s)).view) : Move e s t := by
  rcases start_cases (setArgs r s) with
    ⟨-, hstart⟩ | ⟨hidle, -, hstart⟩ | ⟨hidle, hlink, c, hc, hstart⟩ | ⟨hidle, -, c, hc, hstart⟩
  all_goals rw [hstart] at hview
  · exact .untouched hview (.inr hprogress)
  · exact .illegal he hidle hview
  · exact .accept r he hidle hlink hc hview
  · exact .linkDown r he hidle hc hview

theorem move_of_hostWrite {a : HostAddr} {v : Byte} {s : State} :
    Move (.host (.wr a v)) s (hostWrite a v s) := by
  rcases hostWrite_cases a v s with ⟨r, hargs⟩ | ⟨hctrl, hv, hstart⟩ | hsame
  · rw [hargs]
    exact .untouched rfl (.inr rfl)
  · rw [hstart]
    refine move_of_start s.args ?_ rfl rfl
    simp [startsOrResets, regAt_eq_ctrl hctrl, hv]
  · rw [hsame]
    exact .untouched rfl (.inr rfl)

/-- Every input that answers makes one of the moves. -/
theorem takeInput_move {e : Input} {s t : State} (h : takeInput e s = .next t) : Move e s t := by
  cases e with
  | request frame =>
    obtain ⟨i, -, hexec⟩ := takeInput_request_next h
    rw [exec_eq] at hexec
    cases hexec
    exact move_of_start (argsAfter i s.args) rfl rfl (waitDone_view _)
  | host op =>
    cases h
    cases op with
    | wr a v => exact move_of_hostWrite
    | rd a => exact .untouched rfl (.inr rfl)
    | waitDone => exact .untouched rfl (.inr rfl)
  | txAccept =>
    obtain ⟨htx, -, ⟨h6, rfl⟩ | ⟨hi, rfl⟩⟩ := txAccept_next h
    · exact .sendLast htx h6
    · exact .send htx hi
  | settleExpire =>
    obtain ⟨hsettle, ⟨hfull, hcheck⟩ | ⟨hroom, rfl⟩⟩ := settleExpire_next h
    · exact .checkFull hsettle hfull hcheck
    · exact .openRead hsettle hroom
  | rxByte b =>
    obtain ⟨-, rfl⟩ | ⟨hwindow, hk, ⟨hread, hfull, hcheck⟩ | ⟨hopen, rfl⟩⟩ := rxByte_next h
    · exact .untouched rfl (.inr rfl)
    · exact .fill hread hk hfull hcheck
    · exact .store hwindow hk hopen
  | readTimeout =>
    obtain ⟨hread, hroom, -⟩ := readTimeout_next h
    cases (readTimeout_short hread hroom).symm.trans h
    exact .timeout hread hroom
  | tErr =>
    cases h
    obtain ⟨hidle, hsame⟩ | ⟨hbusy, hdone⟩ := tErr_cases s
    · rw [hsame]
      exact .untouched rfl (.inl hidle)
    · rw [hdone]
      exact .fail hbusy
  | linkReady up =>
    cases h
    exact .untouched rfl (.inr rfl)
  | reset =>
    cases h
    exact .reset

/-- A step is an input taken in a state with the same command. -/
theorem step_next {s t : State} (h : step s = .next t) :
    ∃ e u, u.view = s.view ∧ takeInput e u = .next t := by
  obtain ⟨inbox, draws, hstate⟩ := nextInput_state s
  exact ⟨_, _, by rw [hstate]; rfl, h⟩

/-! ### The dispatcher's invariants (R37) -/

theorem inv_of_view {s t : State} (hview : t.view = s.view) (h : Inv s) : Inv t := by
  rw [eq_withOutside_of_view hview]
  exact ⟨h.rx_le, h.exp_values, h.tx_le, h.sending, h.sent_all, h.room, h.open_result, h.legal,
    h.settle_timer, h.read_timer⟩

/-- In phase IDLE with the timers stopped only the ranges are left to show. -/
theorem inv_of_idle {t : State} (hidle : t.phase = .idle) (hrx : t.rxCount ≤ t.expLen)
    (hexp : t.expLen ∈ [0, 4, 6, 15, 20, 250]) (htx : t.txIdx ≤ 7) (hsettle : t.settleTimer = .stopped)
    (hread : t.readTimer = .stopped) : Inv t where
  rx_le := hrx
  exp_values := hexp
  tx_le := htx
  sending := by simp [hidle]
  sent_all := by simp [hidle]
  room := by simp [hidle]
  open_result := by simp [hidle]
  legal := by simp [hidle]
  settle_timer := by simp [hidle, hsettle]
  read_timer := by simp [hidle, hread]

theorem inv_reset : Inv State.reset :=
  inv_of_idle rfl (Nat.le_refl 0) (by decide) (by decide) rfl rfl

theorem Inv.timers_stopped {s : State} (h : Inv s) (hidle : s.phase = .idle) :
    s.settleTimer = .stopped ∧ s.readTimer = .stopped :=
  ⟨by simp [h.settle_timer, hidle], by simp [h.read_timer, hidle]⟩

/-- A move keeps the dispatcher's invariants. -/
theorem Move.inv {e : Input} {s t : State} (hmove : Move e s t) (h : Inv s) : Inv t := by
  cases hmove with
  | untouched hview => exact inv_of_view hview h
  | illegal he hidle hview =>
    obtain ⟨hsettle, hread⟩ := h.timers_stopped hidle
    exact inv_of_view hview (inv_of_idle hidle (Nat.le_refl 0) (by simp) h.tx_le hsettle hread)
  | @accept _ _ _ c r he hidle hlink hc hview =>
    obtain ⟨hsettle, hread⟩ := h.timers_stopped hidle
    refine inv_of_view hview ⟨Nat.zero_le _, respLen_mem c, Nat.zero_le _, ?_, ?_, ?_, ?_, ?_, ?_, ?_⟩
    · simp
    · simp
    · simp
    · simp
    · exact fun _ => ⟨c, hc, rfl⟩
    · simpa using hsettle
    · simpa using hread
  | @linkDown _ _ _ c r he hidle hc hview =>
    obtain ⟨hsettle, hread⟩ := h.timers_stopped hidle
    exact inv_of_view hview
      (inv_of_idle hidle (Nat.zero_le _) (respLen_mem c) (Nat.zero_le _) hsettle hread)
  | send htx hi =>
    obtain ⟨-, hrx⟩ := h.sending htx
    exact ⟨h.rx_le, h.exp_values, by simp only; omega, fun _ => ⟨by simp only; omega, hrx⟩,
      by simp [htx], h.room, h.open_result, h.legal, h.settle_timer, h.read_timer⟩
  | sendLast htx h6 =>
    have hbusy : s.phase ≠ .idle := by simp [htx]
    have hread := h.read_timer
    simp only [htx, reduceCtorEq, if_false] at hread
    exact ⟨h.rx_le, h.exp_values, Nat.le_refl 7, by simp, fun _ => rfl, by simp,
      fun _ => h.open_result hbusy, fun _ => h.legal hbusy, rfl, hread⟩
  | openRead hsettle hroom =>
    have hbusy : s.phase ≠ .idle := by simp [hsettle]
    exact ⟨h.rx_le, h.exp_values, h.tx_le, by simp, fun _ => h.sent_all (.inl hsettle),
      fun _ => Nat.lt_of_le_of_ne h.rx_le hroom, fun _ => h.open_result hbusy, fun _ => h.legal hbusy,
      rfl, rfl⟩
  | checkFull hsettle hfull hcheck =>
    obtain ⟨code, ack, rfl⟩ := finish_next hcheck
    exact inv_of_idle rfl h.rx_le h.exp_values h.tx_le rfl rfl
  | @store b _ hwindow hk hopen =>
    obtain ⟨hphase, hroom⟩ := captures_iff.mp hwindow
    have htx : s.phase ≠ .tx := by rcases hphase with e | e <;> simp [e]
    refine ⟨?_, h.exp_values, h.tx_le, fun e => absurd e htx, h.sent_all, fun hread => ?_, h.open_result,
      h.legal, h.settle_timer, h.read_timer⟩
    · simp only [storeByte_rxCount, storeByte_expLen]
      omega
    · have hne : s.rxCount + 1 ≠ s.expLen := fun e => hopen ⟨hread, e⟩
      simp only [storeByte_rxCount, storeByte_expLen]
      omega
  | fill hread hk hfull hcheck =>
    obtain ⟨code, ack, rfl⟩ := finish_next hcheck
    exact inv_of_idle rfl (Nat.le_of_eq hfull) h.exp_values h.tx_le rfl rfl
  | timeout hread hroom => exact inv_of_idle rfl h.rx_le h.exp_values h.tx_le rfl rfl
  | fail hbusy => exact inv_of_idle rfl h.rx_le h.exp_values h.tx_le rfl rfl
  | reset => exact inv_of_idle rfl (Nat.le_refl 0) (by simp) (Nat.zero_le 7) rfl rfl

/-- Settles O47: the step is a move. -/
theorem everyStepKeepsTheInvariant : Obligations.EveryStepKeepsTheInvariant := by
  intro s t h hstep
  obtain ⟨e, u, hview, hu⟩ := step_next hstep
  exact (takeInput_move hu).inv (inv_of_view hview h)

/-! ### The request buffer (R34, R37) -/

theorem requestInv_of_view {s t : State} (hview : t.view = s.view) (h : RequestInv s) : RequestInv t := by
  rw [eq_withOutside_of_view hview]
  exact ⟨h.frame, h.opcode, h.unit, h.address⟩

theorem requestInv_of_idle {t : State} (hidle : t.phase = .idle)
    (hframe : t.txf = Vector.replicate 7 0 ∨ ∃ i : Instr, i.WellFormed ∧ t.txf.toList = encode i) :
    RequestInv t :=
  ⟨hframe, fun h => absurd hidle h, fun h => absurd hidle h, fun h => absurd hidle h⟩

/-- In flight the buffer and the latches stay. -/
theorem requestInv_of_latches {s t : State} (h : RequestInv s) (hbusy : s.phase ≠ .idle)
    (htxf : t.txf = s.txf) (hop : t.curOp = s.curOp) (hunit : t.curUnit = s.curUnit) (haddr : t.curAddr = s.curAddr) :
    RequestInv t := by
  refine ⟨?_, fun _ => ?_, fun _ => ?_, fun _ => ?_⟩
  · rw [htxf]
    exact h.frame
  · rw [htxf, hop]
    exact h.opcode hbusy
  · rw [htxf, hop, hunit]
    exact h.unit hbusy
  · rw [htxf, hop, haddr]
    exact h.address hbusy

/-- The instruction whose request START builds from the argument registers (R82, R132). -/
def instrOf (c : Command) (r : ArgRegs) : Instr :=
  match c with
  | .init => .init r.unit
  | .getStatus => .gstat
  | .getPosition => .gpos
  | .stop => .stop r.unit
  | .gotoPosition => .goto r.unit r.pos
  | .setConfigData => .setcfg r.addr r.data0 r.data1 r.data2 r.data3
  | .getConfigMemory => .getcfg

theorem instrOf_wellFormed (c : Command) (r : ArgRegs) : (instrOf c r).WellFormed := by
  cases c with
  | gotoPosition => exact wellFormed_goto.mpr (bytes_of_target r.posLo r.posHi).1
  | init | getStatus | getPosition | stop | setConfigData | getConfigMemory => rfl

/-- What START builds is the encoding of an instruction, whatever the argument registers hold. -/
theorem encode_instrOf {c : Command} {r : ArgRegs} (hc : commandOf r.opcode = some c) :
    (requestOf c r).toList = encode (instrOf c r) := by
  have hop : r.opcode = opcodeOf c := commandOf_eq_some.mp hc
  obtain ⟨-, hlo, hhi⟩ := bytes_of_target r.posLo r.posHi
  have hfields : fields c r = fields c (instrOf c r).args := by
    cases c with
    | gotoPosition => simp only [fields, instrOf, Instr.args, ArgRegs.pos, hlo, hhi]
    | init | getStatus | getPosition | stop | setConfigData | getConfigMemory => rfl
  have hcommand : (instrOf c r).command = c := by cases c <;> rfl
  rw [encode, requestOf, requestOf, args_opcode, hcommand, hop, hfields]

/-- Byte 1 of a request is what the reply's echo is checked against (R163, R181). -/
theorem requestOf_echo {c : Command} {r : ArgRegs} (hc : commandOf r.opcode = some c) :
    (r.opcode = 0x0F#8 → (requestOf c r)[1] = r.unit) ∧
    (r.opcode = 0x88#8 → (requestOf c r)[1] = r.addr) := by
  constructor
  · intro hop
    obtain rfl : Command.gotoPosition = c := by simpa [hop, commandOf] using hc
    rfl
  · intro hop
    obtain rfl : Command.setConfigData = c := by simpa [hop, commandOf] using hc
    rfl

/-- A move keeps the request buffer. -/
theorem Move.requestInv {e : Input} {s t : State} (hmove : Move e s t) (h : RequestInv s) :
    RequestInv t := by
  cases hmove with
  | untouched hview => exact requestInv_of_view hview h
  | illegal he hidle hview => exact requestInv_of_view hview (requestInv_of_idle hidle h.frame)
  | @accept _ _ _ c r he hidle hlink hc hview =>
    obtain ⟨hunit, haddr⟩ := requestOf_echo hc
    exact requestInv_of_view hview
      ⟨.inr ⟨instrOf c r, instrOf_wellFormed c r, encode_instrOf hc⟩, fun _ => ⟨rfl, c, hc⟩,
        fun _ => hunit, fun _ => haddr⟩
  | @linkDown _ _ _ c r he hidle hc hview =>
    exact requestInv_of_view hview
      (requestInv_of_idle hidle (.inr ⟨instrOf c r, instrOf_wellFormed c r, encode_instrOf hc⟩))
  | send htx hi => exact requestInv_of_latches h (by simp [htx]) rfl rfl rfl rfl
  | sendLast htx h6 => exact requestInv_of_latches h (by simp [htx]) rfl rfl rfl rfl
  | openRead hsettle hroom => exact requestInv_of_latches h (by simp [hsettle]) rfl rfl rfl rfl
  | checkFull hsettle hfull hcheck =>
    obtain ⟨code, ack, rfl⟩ := finish_next hcheck
    exact requestInv_of_idle rfl h.frame
  | store hwindow hk hopen => exact ⟨h.frame, h.opcode, h.unit, h.address⟩
  | fill hread hk hfull hcheck =>
    obtain ⟨code, ack, rfl⟩ := finish_next hcheck
    exact requestInv_of_idle rfl h.frame
  | timeout hread hroom => exact requestInv_of_idle rfl h.frame
  | fail hbusy => exact requestInv_of_idle rfl h.frame
  | reset => exact requestInv_of_idle rfl (.inl rfl)

/-- Settles O48: the step is a move. -/
theorem everyStepKeepsTheRequestBuffer : Obligations.EveryStepKeepsTheRequestBuffer := by
  intro s t h hstep
  obtain ⟨e, u, hview, hu⟩ := step_next hstep
  exact (takeInput_move hu).requestInv (requestInv_of_view hview h)

/-! ### The wire (R54, R135) -/

theorem wireInv_of_view {s t : State} (hview : t.view = s.view) (h : WireInv s) : WireInv t := by
  rw [eq_withOutside_of_view hview]
  exact h

theorem wireInv_of_idle {t : State} (hidle : t.phase = .idle) : WireInv t := fun h => absurd hidle h

/-- In flight, where no byte goes out the wire's end stays. -/
theorem wireInv_of_same {s t : State} (h : WireInv s) (hbusy : s.phase ≠ .idle) (hsent : t.sent = s.sent)
    (htxf : t.txf = s.txf) (hidx : t.txIdx = s.txIdx) : WireInv t := by
  intro _
  rw [hsent, htxf, hidx]
  exact h hbusy

/-- In flight, the byte on `tx_data` that goes out is the next of the request. -/
theorem wireInv_of_send {s t : State} (h : WireInv s) (hbusy : s.phase ≠ .idle) (hi : s.txIdx < 7)
    (hsent : t.sent = s.sent ++ [s.txf[s.txIdx]]) (htxf : t.txf = s.txf) (hidx : t.txIdx = s.txIdx + 1) :
    WireInv t := by
  intro _
  obtain ⟨earlier, hearlier⟩ := h hbusy
  refine ⟨earlier, ?_⟩
  rw [hsent, htxf, hidx, hearlier, List.append_assoc,
    List.take_succ_eq_append_getElem (by simpa using hi), Vector.getElem_toList]

/-- A move keeps the wire's end. -/
theorem Move.wireInv {e : Input} {s t : State} (hmove : Move e s t) (h : WireInv s) : WireInv t := by
  cases hmove with
  | untouched hview => exact wireInv_of_view hview h
  | illegal he hidle hview => exact wireInv_of_view hview (wireInv_of_idle hidle)
  | accept r he hidle hlink hc hview =>
    exact wireInv_of_view hview fun _ => ⟨s.sent, (List.append_nil s.sent).symm⟩
  | linkDown r he hidle hc hview => exact wireInv_of_view hview (wireInv_of_idle hidle)
  | send htx hi => exact wireInv_of_send h (by simp [htx]) (by omega) rfl rfl rfl
  | sendLast htx h6 => exact wireInv_of_send h (by simp [htx]) (by omega) rfl rfl (by simp [h6])
  | openRead hsettle hroom => exact wireInv_of_same h (by simp [hsettle]) rfl rfl rfl
  | checkFull hsettle hfull hcheck =>
    obtain ⟨code, ack, rfl⟩ := finish_next hcheck
    exact wireInv_of_idle rfl
  | store hwindow hk hopen => exact h
  | fill hread hk hfull hcheck =>
    obtain ⟨code, ack, rfl⟩ := finish_next hcheck
    exact wireInv_of_idle rfl
  | timeout hread hroom => exact wireInv_of_idle rfl
  | fail hbusy => exact wireInv_of_idle rfl
  | reset => exact wireInv_of_idle rfl

/-- Settles O49: the step is a move. -/
theorem everyStepKeepsTheWire : Obligations.EveryStepKeepsTheWire := by
  intro s t h hstep
  obtain ⟨e, u, hview, hu⟩ := step_next hstep
  exact (takeInput_move hu).wireInv (wireInv_of_view hview h)

/-- Settles O46: nothing is in flight after reset, and TXF is zero. -/
theorem resetMeetsTheInvariants : Obligations.ResetMeetsTheInvariants :=
  ⟨inv_reset, requestInv_of_idle rfl (.inl rfl), wireInv_of_idle rfl⟩

end Sys2Proof.Machine
end

section
/-! PROOFS. What follows from the moves: the phase graph (41_dispatcher R146), what a completion and an idle block
leave unchanged (60_exceptions R206, 20_memory R67), that nothing faults (R51, R206), and the host's WAITDONE
(30_encoding R92). -/

namespace Sys2Proof.Machine

/-! ### The phase graph (R146) -/

/-- Settles O55: each move is an arrow of the graph or keeps the phase. -/
theorem phaseGraph : Obligations.PhaseGraph := by
  intro e s t h
  cases takeInput_move h with
  | untouched hview => exact .inl (congrArg CommandView.phase hview)
  | illegal he hidle hview => exact .inl (congrArg CommandView.phase hview)
  | @accept _ _ _ c r he hidle hlink hc hview =>
    have hdone : t.done = false := congrArg CommandView.done hview
    have hidx : t.txIdx = 0 := congrArg CommandView.txIdx hview
    have hop : t.curOp = r.opcode := congrArg CommandView.curOp hview
    exact .inr (.inl ⟨hidle, congrArg CommandView.phase hview, he, hlink, hdone, hidx, c,
      hop.trans (commandOf_eq_some.mp hc)⟩)
  | linkDown r he hidle hc hview => exact .inl (congrArg CommandView.phase hview)
  | send htx hi => exact .inl rfl
  | sendLast htx h6 => exact .inr (.inr (.inl ⟨htx, rfl, rfl, h6⟩))
  | openRead hsettle hroom => exact .inr (.inr (.inr (.inl ⟨hsettle, rfl, rfl, hroom⟩)))
  | checkFull hsettle hfull hcheck =>
    obtain ⟨code, ack, rfl⟩ := finish_next hcheck
    exact .inr (.inr (.inr (.inr (.inr ⟨by simp [hsettle], rfl, rfl, .inr (.inl ⟨rfl, hsettle, hfull⟩)⟩))))
  | store hwindow hk hopen => exact .inl rfl
  | @fill b _ _ hread hk hfull hcheck =>
    obtain ⟨code, ack, rfl⟩ := finish_next hcheck
    exact .inr (.inr (.inr (.inr (.inr
      ⟨by simp [hread], rfl, rfl, .inr (.inr (.inr ⟨hread, hfull, b, rfl⟩))⟩))))
  | timeout hread hroom =>
    exact .inr (.inr (.inr (.inr (.inr ⟨by simp [hread], rfl, rfl, .inr (.inr (.inl ⟨rfl, hread⟩))⟩))))
  | fail hbusy => exact .inr (.inr (.inr (.inr (.inr ⟨hbusy, rfl, rfl, .inl rfl⟩))))
  | reset =>
    by_cases hidle : s.phase = .idle
    · exact .inl hidle.symm
    · exact .inr (.inr (.inr (.inr (.inl ⟨hidle, rfl, rfl, rfl⟩))))

/-- An idle block is started by a START or a mnemonic only. -/
theorem stays_idle {e : Input} {s t : State} (hidle : s.phase = .idle) (he : startsOrResets e = false)
    (h : takeInput e s = .next t) : t.view = s.view := by
  cases takeInput_move h with
  | untouched hview => exact hview
  | illegal hs | accept _ hs | linkDown _ hs => simp [he] at hs
  | send htx | sendLast htx => simp [hidle] at htx
  | openRead hsettle | checkFull hsettle => simp [hidle] at hsettle
  | store hwindow => simp [hidle] at hwindow
  | fill hread | timeout hread => simp [hidle] at hread
  | fail hbusy => exact absurd hidle hbusy
  | reset => cases he

/-- Settles O52: the results are part of the command's own state, which does not change. -/
theorem resultsStayUntilTheNextStart : Obligations.ResultsStayUntilTheNextStart := by
  intro e s t hidle he h
  rw [eq_withOutside_of_view (stays_idle hidle he h)]
  exact ⟨hidle, rfl, rfl, rfl, rfl, rfl, rfl, rfl⟩

/-! ### Completion (R142, R206) -/

/-- Only SetConfigData's own check gives ACK a value (R31, R181). -/
theorem extra_ack {c : Command} (hc : c ≠ .setConfigData) (raw : List Byte) (s : State) :
    (extra c raw s).2 = s.ack := by
  cases c with
  | setConfigData => exact absurd rfl hc
  | gotoPosition =>
    simp only [extra, extraGotoPosition]
    split <;> rfl
  | init | getStatus | getPosition | stop | getConfigMemory => rfl

/-- No command's own check answers LENGTH_MISMATCH (R160, R163, R181). -/
theorem extra_ne_lengthMismatch (c : Command) (raw : List Byte) (s : State) :
    (extra c raw s).1 ≠ .lengthMismatch := by
  cases c with
  | setConfigData =>
    simp only [extra, extraSetConfigData]
    split_ifs <;> simp
  | gotoPosition =>
    simp only [extra, extraGotoPosition]
    split <;> simp
  | init | getStatus | getPosition | stop | getConfigMemory => simp [extra]

/-- Everything `finish` can do for a length in the domain: a frame check that fails decides, and a frame that
passes them is decided by the command's own check, which alone gives ACK a value (R116, R142). -/
theorem finish_cases {raw : List Byte} {s t : State} (h : finish raw s = .next t) :
    (raw.length ≠ s.expLen ∧ t = complete .lengthMismatch s) ∨
    (raw.length = s.expLen ∧ t = complete .checksumMismatch s) ∨
    (raw.length = s.expLen ∧ t = complete .opcodeMismatch s) ∨
    (raw.length = s.expLen ∧ ∃ c, s.curOp = opcodeOf c ∧
      t = complete (extra c raw s).1 { s with ack := (extra c raw s).2 }) := by
  have hpos : s.expLen ≠ 0 := by
    intro hzero
    simp [finish, validateResponse, hzero] at h
  rw [finish] at h
  rcases validateResponse_cases (op := s.curOp) (raw := raw) hpos with
    ⟨hlen, e⟩ | ⟨hlen, -, e⟩ | ⟨hlen, -, -, e⟩ | ⟨hlen, -, -, e⟩
  all_goals rw [e] at h
  · exact .inl ⟨hlen, (Host.Outcome.next.inj h).symm⟩
  · exact .inr (.inl ⟨hlen, (Host.Outcome.next.inj h).symm⟩)
  · exact .inr (.inr (.inl ⟨hlen, (Host.Outcome.next.inj h).symm⟩))
  · cases hc : commandOf s.curOp with
    | none => simp [hc] at h
    | some c =>
      simp only [hc] at h
      exact .inr (.inr (.inr ⟨hlen, c, commandOf_eq_some.mp hc, (Host.Outcome.next.inj h).symm⟩))

theorem finish_ack {raw : List Byte} {s t : State} (hop : s.curOp ≠ 0x88#8)
    (h : finish raw s = .next t) : t.ack = s.ack := by
  rcases finish_cases h with ⟨-, rfl⟩ | ⟨-, rfl⟩ | ⟨-, rfl⟩ | ⟨-, c, hc, rfl⟩
  · rfl
  · rfl
  · rfl
  · refine extra_ack ?_ raw s
    rintro rfl
    exact hop hc

theorem finish_ne_lengthMismatch {raw : List Byte} {s t : State} (hlen : raw.length = s.expLen)
    (h : finish raw s = .next t) : t.result ≠ .lengthMismatch := by
  rcases finish_cases h with ⟨hne, -⟩ | ⟨-, rfl⟩ | ⟨-, rfl⟩ | ⟨-, c, -, rfl⟩
  · exact absurd hlen hne
  · simp
  · simp
  · exact extra_ne_lengthMismatch c raw s

/-- Settles O37: the moves of the dispatcher that enter IDLE are completions, of the state itself or of the
state with the byte that fills the buffer. -/
theorem completionChangesOnlyItsRegisters : Obligations.CompletionChangesOnlyItsRegisters := by
  intro e s t he hbusy h hidle
  cases takeInput_move h with
  | untouched hview => exact absurd ((congrArg CommandView.phase hview).symm.trans hidle) hbusy
  | illegal _ hs | accept _ _ hs | linkDown _ _ hs => exact absurd hs hbusy
  | send | store => exact absurd hidle hbusy
  | sendLast | openRead => cases hidle
  | checkFull hsettle hfull hcheck =>
    have hack := fun hop => finish_ack hop hcheck
    obtain ⟨code, ack, rfl⟩ := finish_next hcheck
    exact ⟨rfl, hack, rfl, .inl ⟨rfl, rfl⟩⟩
  | @fill b _ _ hread hk hfull hcheck =>
    have hack := fun hop => finish_ack (s := storeByte b s hk) hop hcheck
    obtain ⟨code, ack, rfl⟩ := finish_next hcheck
    exact ⟨rfl, hack, rfl, .inr ⟨b, hk, rfl, rfl, rfl⟩⟩
  | timeout | fail => exact ⟨rfl, fun _ => rfl, rfl, .inl ⟨rfl, rfl⟩⟩
  | reset => cases he

/-! ### Nothing faults (R51, R120, R206) -/

/-- No fault, and no validation of length 0. -/
def Clean (o : Host.Outcome State Fault Refusal) : Prop :=
  (∀ f, o ≠ .fault f) ∧ o ≠ .refused .emptyValidation

theorem clean_next (t : State) : Clean (.next t) := ⟨nofun, nofun⟩

theorem clean_refused {r : Refusal} (hr : r ≠ .emptyValidation) : Clean (.refused r) :=
  ⟨nofun, fun h => hr (Host.Outcome.refused.inj h)⟩

theorem Inv.expLen_pos {s : State} (h : Inv s) (hbusy : s.phase ≠ .idle) : 4 ≤ s.expLen := by
  obtain ⟨c, -, hexp⟩ := h.legal hbusy
  exact hexp ▸ respLen_pos c

theorem Inv.expLen_le {s : State} (h : Inv s) (hbusy : s.phase ≠ .idle) : s.expLen ≤ 250 := by
  obtain ⟨c, -, hexp⟩ := h.legal hbusy
  exact hexp ▸ respLen_le c

/-- In flight a check of `q`, whose latches are those of `s`, completes. -/
theorem clean_finish {s q : State} (h : Inv s) (hbusy : s.phase ≠ .idle) (hop : q.curOp = s.curOp)
    (hexp : q.expLen = s.expLen) (raw : List Byte) : Clean (finish raw q) := by
  obtain ⟨c, hc, -⟩ := h.legal hbusy
  have hpos := h.expLen_pos hbusy
  obtain ⟨t, ht⟩ := finish_completes (raw := raw) (s := q) (hop ▸ hc) (by omega)
  exact ht ▸ clean_next t

/-- Where the invariant holds every index is in range and every check has a legal command. -/
theorem takeInput_clean {s : State} (h : Inv s) (e : Input) : Clean (takeInput e s) := by
  cases e with
  | request frame =>
    simp only [takeInput]
    split
    · exact clean_refused (by simp)
    · rw [exec_eq]
      exact clean_next _
  | host | tErr | linkReady | reset => exact clean_next _
  | txAccept =>
    simp only [takeInput, txAccept]
    split_ifs with htx hi
    · exact clean_next _
    · exact clean_next _
    · exact absurd (h.sending htx).1 hi
    · exact clean_refused (by simp)
  | settleExpire =>
    simp only [takeInput, settleExpire]
    split_ifs with hsettle
    · exact clean_finish h (by simp [hsettle]) rfl rfl _
    · exact clean_next _
    · exact clean_refused (by simp)
  | rxByte b =>
    simp only [takeInput, rxByte]
    split_ifs with hwindow hk hfull
    · exact clean_finish (q := storeByte b s hk) h (by simp [hfull]) rfl rfl _
    · exact clean_next _
    · obtain ⟨hphase, hroom⟩ := captures_iff.mp hwindow
      have hbusy : s.phase ≠ .idle := by rcases hphase with e | e <;> simp [e]
      have hexp := h.expLen_le hbusy
      omega
    · exact clean_next _
  | readTimeout =>
    simp only [takeInput, readTimeout]
    split_ifs with hread
    · exact clean_finish h (by simp [hread]) rfl rfl _
    · exact clean_refused (by simp)

/-- Settles O50: a step takes an input in a state with the same command. -/
theorem noStepFaults : Obligations.NoStepFaults := by
  intro s h
  obtain ⟨inbox, draws, hstate⟩ := nextInput_state s
  have hnext : Inv (nextInput s).2 := inv_of_view (by rw [hstate]; rfl) h
  exact takeInput_clean hnext (nextInput s).1

/-! ### LENGTH_MISMATCH means a short reply (R203) -/

theorem lengthMismatch_is_short {e : Input} {s t : State} (h : Inv s) (hbusy : s.phase ≠ .idle)
    (ht : takeInput e s = .next t) (hresult : t.result = .lengthMismatch) : t.rxCount < t.expLen := by
  obtain ⟨-, hok, -⟩ := h.open_result hbusy
  have hkept : t.result ≠ s.result := by simp [hok, hresult]
  have hexp := h.expLen_le hbusy
  cases takeInput_move ht with
  | untouched hview => exact absurd (congrArg CommandView.result hview) hkept
  | illegal _ hs | accept _ _ hs | linkDown _ _ hs => exact absurd hs hbusy
  | send | sendLast | openRead | store => exact absurd rfl hkept
  | checkFull hsettle hfull hcheck =>
    have hlen : (captured s).length = s.expLen := by
      rw [captured_length]
      omega
    exact absurd hresult (finish_ne_lengthMismatch hlen hcheck)
  | @fill b _ _ hread hk hfull hcheck =>
    have hlen : (captured s ++ [b]).length = (storeByte b s hk).expLen := by
      rw [List.length_append, captured_length, List.length_singleton, storeByte_expLen]
      omega
    exact absurd hresult (finish_ne_lengthMismatch hlen hcheck)
  | timeout hread hroom => exact hroom
  | fail => cases hresult
  | reset => cases hresult

/-- Settles O51: in flight `exp_len` is a response length, and LENGTH_MISMATCH comes from the read timer. -/
theorem inFlightValidationIsInDomain : Obligations.InFlightValidationIsInDomain := by
  refine ⟨fun s h hbusy => ⟨?_, h.rx_le, ?_, fun e t => lengthMismatch_is_short h hbusy⟩, fun _ _ => rfl⟩
  · have hpos := h.expLen_pos hbusy
    exact (List.mem_cons.mp h.exp_values).resolve_left (by omega)
  · have hle := h.rx_le
    have hexp := h.expLen_le hbusy
    rw [List.length_take, Vector.length_toList]
    omega

/-! ### WAITDONE (R92, R93) -/

/-- Where the invariant holds DONE = 1 means that no command is in flight. -/
theorem Inv.idle_of_done {s : State} (h : Inv s) (hdone : s.done = true) : s.phase = .idle := by
  by_contra hbusy
  obtain ⟨hopen, -, -⟩ := h.open_result hbusy
  simp [hopen] at hdone

/-- A turn of WAITDONE that ended has seen DONE. -/
theorem done_of_waitDone_ready {s : State} (h : (waitDone s).host = .ready) : (waitDone s).done = true := by
  rw [waitDone_done]
  rw [waitDone_eq] at h
  by_contra hdone
  simp [hdone] at h

theorem hostWrite_host (a : HostAddr) (v : Byte) (s : State) : (hostWrite a v s).host = s.host := by
  obtain ⟨-, -, -, -, -, -, hhost, -⟩ := start_outside s
  rcases hostWrite_cases a v s with ⟨r, e⟩ | ⟨-, -, e⟩ | e <;> rw [e]
  · rfl
  · exact hhost

/-- An input that neither moves the host's place nor starts a command. -/
theorem ready_idle_of_kept {e : Input} {s t : State} (hplace : s.host = .ready → s.phase = .idle)
    (hhost : t.host = s.host) (he : startsOrResets e = false) (ht : takeInput e s = .next t) :
    t.host = .ready → t.phase = .idle := by
  intro hready
  have hidle := hplace (hhost ▸ hready)
  exact (congrArg CommandView.phase (stays_idle hidle he ht)).trans hidle

/-- Settles O44: the turn is the model's `waitDone`. A mnemonic performs a first turn itself, which ends only with
DONE = 1; every other input but a raw START keeps the host's place and leaves an idle block idle. -/
theorem waitDonePollsUntilDone : Obligations.WaitDonePollsUntilDone := by
  refine fun s => ⟨congrArg Host.Outcome.next (waitDone_eq s), fun _ _ => rfl, ?_⟩
  intro e t h hplace hstart ht
  have hinv : Inv t := (takeInput_move ht).inv h
  cases e with
  | request frame =>
    obtain ⟨i, -, hexec⟩ := takeInput_request_next ht
    rw [exec_eq] at hexec
    cases hexec
    exact fun hready => hinv.idle_of_done (done_of_waitDone_ready hready)
  | host op =>
    cases ht
    cases op with
    | wr a v =>
      have he : startsOrResets (.host (.wr a v)) = false := by
        rw [startsOrResets, Bool.and_eq_false_iff, decide_eq_false_iff_not, ← Bool.not_eq_true,
          ← not_and_or]
        rintro ⟨rfl, hv⟩
        exact hstart v hv rfl
      exact ready_idle_of_kept hplace (hostWrite_host a v s) he rfl
    | rd a => exact hplace
    | waitDone => exact fun hready => hinv.idle_of_done (done_of_waitDone_ready hready)
  | txAccept | settleExpire | rxByte | readTimeout | tErr =>
    have hhost : t.host = s.host := by rw [dispatcher_keeps_outside rfl ht, State.withOutside]
    exact ready_idle_of_kept hplace hhost rfl ht
  | linkReady up =>
    cases ht
    exact hplace
  | reset =>
    cases ht
    exact fun _ => rfl

end Sys2Proof.Machine
end

section
/-! PROOFS. The checks of a reply (41_dispatcher R142, 60_exceptions R204), the byte sum (40_frame_codec R119), and
the payload layouts (20_memory R57, 43_config_commands R186). -/

namespace Sys2Proof.Machine

/-! ### The checks in order (R142, R204) -/

/-- The code and the ACK that the checks give a reply to command `c`: length, checksum, opcode, then the
command's own check. -/
def checked (c : Command) (raw : List Byte) (s : State) : ResultCode × Byte :=
  if raw.length ≠ respLen c then (.lengthMismatch, s.ack)
  else if csum (raw.take (respLen c - 1)) ≠ raw.getD (respLen c - 1) 0 then (.checksumMismatch, s.ack)
  else if raw.getD 0 0 ≠ opcodeOf c then (.opcodeMismatch, s.ack)
  else extra c raw s

theorem respLen_ne_zero (c : Command) : respLen c ≠ 0 := by
  have hpos := respLen_pos c
  omega

/-- `finish` completes the command latched with what the checks give. -/
theorem finish_eq_checked {c : Command} {s : State} (hop : s.curOp = opcodeOf c)
    (hexp : s.expLen = respLen c) (raw : List Byte) :
    finish raw s = .next (complete (checked c raw s).1 { s with ack := (checked c raw s).2 }) := by
  have hc : commandOf s.curOp = some c := commandOf_eq_some.mpr hop
  have hpos : s.expLen ≠ 0 := hexp ▸ respLen_ne_zero c
  rw [finish, checked, ← hexp, ← hop]
  rcases validateResponse_cases (op := s.curOp) (raw := raw) hpos with
    ⟨hlen, e⟩ | ⟨hlen, hsum, e⟩ | ⟨hlen, hsum, hfirst, e⟩ | ⟨hlen, hsum, hfirst, e⟩
  · simp only [e, if_pos hlen]
  · simp only [e, if_neg (not_not.mpr hlen), if_pos hsum]
  · simp only [e, if_neg (not_not.mpr hlen), if_neg (not_not.mpr hsum), if_pos hfirst]
  · simp only [e, hc, if_neg (not_not.mpr hlen), if_neg (not_not.mpr hsum), if_neg (not_not.mpr hfirst)]

/-- The checksum test of a reply of length `n`, as the law of its byte sum (R111). -/
theorem csum_take_eq_iff {raw : List Byte} {n : Nat} (hlen : raw.length = n) (hn : n ≠ 0) :
    csum (raw.take (n - 1)) = raw.getD (n - 1) 0 ↔ byteSum raw % 256 = 255 := by
  subst hlen
  have hraw : raw ≠ [] := List.ne_nil_of_length_pos (Nat.pos_of_ne_zero hn)
  have hlast : raw.getD (raw.length - 1) 0 = raw.getLast hraw := by
    rw [List.getLast_eq_getElem, List.getD_eq_getElem]
  rw [hlast, ← List.dropLast_eq_take, csum_dropLast_eq_getLast_iff hraw]

theorem getD_eq_iff {raw : List Byte} {k : Nat} (hk : k < raw.length) (b : Byte) :
    raw.getD k 0 = b ↔ raw[k]? = some b := by
  rw [List.getD_eq_getElem _ _ hk, List.getElem?_eq_getElem hk, Option.some.injEq]

/-- The command's own check of a reply with its bytes 1 and 2 in place (R160, R163, R181). -/
theorem extra_eq (c : Command) {raw : List Byte} (hlen : 2 < raw.length) (s : State) :
    extra c raw s =
      if c = .gotoPosition then (if raw[1]? = some s.curUnit then .ok else .unitMismatch, s.ack)
      else if c = .setConfigData then
        if raw[1]? ≠ some s.curAddr then (.addressMismatch, s.ack)
        else if raw[2]? = some 0 then (.ok, 0) else (.deviceNack, raw.getD 2 0)
      else (.ok, s.ack) := by
  have h1 (b : Byte) : raw.getD 1 0 = b ↔ raw[1]? = some b := getD_eq_iff (by omega) b
  have h2 : raw.getD 2 0 = 0 ↔ raw[2]? = some 0 := getD_eq_iff hlen 0
  cases c with
  | gotoPosition =>
    simp only [extra, extraGotoPosition, ne_eq, h1, ite_not, if_true]
    split <;> rfl
  | setConfigData =>
    simp only [extra, extraSetConfigData, ne_eq, h1, ite_not, reduceCtorEq, if_false, if_true]
    split
    · by_cases hack : raw.getD 2 0 = 0
      · rw [if_pos hack, if_pos (h2.mp hack), hack]
      · rw [if_neg hack, if_neg (mt h2.mpr hack)]
    · rfl
  | init | getStatus | getPosition | stop | getConfigMemory => rfl

/-- Settles O34: `finish` gives what the checks give, whose tests are put on the byte sum and on the bytes of the
reply. -/
theorem checksRunInOrder : Obligations.ChecksRunInOrder := by
  intro c raw s hop hexp
  refine ⟨(checked c raw s).1, (checked c raw s).2, finish_eq_checked hop hexp raw, ?_⟩
  by_cases hlen : raw.length = respLen c
  · have hfour := respLen_pos c
    have hsum := csum_take_eq_iff hlen (respLen_ne_zero c)
    have hfirst := getD_eq_iff (raw := raw) (k := 0) (by omega) (opcodeOf c)
    simp only [checked, ne_eq, hlen, hsum, hfirst, hop, extra_eq c (raw := raw) (by omega)]
  · simp only [checked, ne_eq, hlen, not_false_iff, if_true]

/-- Settles O36: the reply passes the frame checks, and these commands have no check of their own. -/
theorem plainCommandsAcceptAnyPayload : Obligations.PlainCommandsAcceptAnyPayload := by
  intro c payload s hplain hop hexp hlen
  rw [finish_wellFormed hop rfl (by rw [hexp, ← hlen]; simp)]
  simp only [List.mem_cons, List.not_mem_nil, or_false] at hplain
  rcases hplain with rfl | rfl | rfl | rfl | rfl <;> rfl

/-! ### Equal sums (R119) -/

theorem byteSum_perm {f g : List Byte} (h : f.Perm g) : byteSum f = byteSum g :=
  (h.map BitVec.toNat).sum_eq

/-- Bit 7 flipped adds or takes 128. -/
theorem xor_bit7_toNat (b : Byte) : (b ^^^ 0x80#8).toNat % 256 = (b.toNat + 128) % 256 := by
  revert b
  decide +kernel

/-- Flipping bit 7 of one byte moves the sum by 128 modulo 256. -/
theorem byteSum_flip (f : List Byte) {i : Nat} (hi : i < f.length) :
    byteSum (f.set i (f[i] ^^^ 0x80#8)) % 256 = (byteSum f + 128) % 256 := by
  have hset := byteSum_set f i hi (f[i] ^^^ 0x80#8)
  have hbit := xor_bit7_toNat f[i]
  omega

/-- Settles O7: the law of the frame sum (R111); two flips of bit 7 move the sum by 256. -/
theorem equalSumsPassAlike : Obligations.EqualSumsPassAlike := by
  refine ⟨fun f g hf hg hsum => ?_, fun _ _ => byteSum_perm, fun f i j hi hj hij => ?_⟩
  · rw [csum_dropLast_eq_getLast_iff hf, csum_dropLast_eq_getLast_iff hg, hsum]
  · have hj' : j < (f.set i (f[i] ^^^ 0x80#8)).length := by simpa using hj
    have hkept : (f.set i (f[i] ^^^ 0x80#8))[j] = f[j] := List.getElem_set_ne hij hj'
    have hfirst := byteSum_flip f hi
    have hsecond := byteSum_flip (f.set i (f[i] ^^^ 0x80#8)) hj'
    rw [hkept] at hsecond
    omega

/-! ### The configuration image (R57) -/

/-- The field byte that stands at an offset of the image. -/
def fieldAt (o : Fin 248) : ImageField :=
  if o.val < 192 then .correction ⟨o.val / 64 % 3, by omega⟩ ⟨o.val % 64, by omega⟩
  else if o.val < 204 then .wheelDiameter ⟨(o.val - 192) / 4 % 3, by omega⟩ ⟨o.val % 4, by omega⟩
  else if o.val < 216 then .tapeThickness ⟨(o.val - 204) / 4 % 3, by omega⟩ ⟨o.val % 4, by omega⟩
  else if o.val < 228 then .tapeLength ⟨(o.val - 216) / 4 % 3, by omega⟩ ⟨o.val % 4, by omega⟩
  else if o.val < 240 then .tapeHolePitch ⟨(o.val - 228) / 4 % 3, by omega⟩ ⟨o.val % 4, by omega⟩
  else if o.val < 244 then .liquidArgonLevel ⟨o.val % 4, by omega⟩
  else .tapeAlpha ⟨o.val % 4, by omega⟩

theorem offset_lt (f : ImageField) : f.offset < 248 := by
  cases f <;> simp only [ImageField.offset] <;> omega

theorem offset_fieldAt (o : Fin 248) : (fieldAt o).offset = o := by
  unfold fieldAt
  split_ifs <;> simp only [ImageField.offset] <;> omega

/-- Two fields do not overlap, and in one field the offset gives back the unit and the byte. -/
theorem offset_injective {f g : ImageField} (h : f.offset = g.offset) : f = g := by
  cases f <;> cases g <;> simp only [ImageField.offset] at h
  -- two fields
  any_goals omega
  -- one field
  all_goals
    simp only [ImageField.correction.injEq, ImageField.wheelDiameter.injEq, ImageField.tapeThickness.injEq,
      ImageField.tapeLength.injEq, ImageField.tapeHolePitch.injEq, ImageField.liquidArgonLevel.injEq,
      ImageField.tapeAlpha.injEq, Fin.ext_iff]
    omega

/-- Settles O59: `fieldAt` gives the field byte of an offset, and the offset gives no other. -/
theorem imageFieldsTileTheImage : Obligations.ImageFieldsTileTheImage :=
  ⟨offset_lt, fun o => ⟨fieldAt o, offset_fieldAt o, fun _ hf =>
    offset_injective (hf.trans (offset_fieldAt o).symm)⟩⟩

/-! ### The whole-image write (R186) -/

/-- Settles O60: the write lists its chunks in order. -/
theorem imageWriteCoversTheImage : Obligations.ImageWriteCoversTheImage := by
  intro image
  have hlength : (imageWrite image).length = 62 := by simp [imageWrite]
  refine ⟨hlength, fun k => ⟨BitVec.ofNat 8 (4 * k.val), _, _, _, _, ?_, ?_, rfl, rfl, rfl, rfl⟩⟩
  · simp [imageWrite, chunkInstr]
  · rw [BitVec.toNat_ofNat]
    omega

end Sys2Proof.Machine
end

section
/-! PROOFS. Whole commands (41_dispatcher R132 to R142, 70_reset_and_hazards R244): the run of a command from its
START to its end, and the inputs that may come in between. -/

namespace Sys2Proof.Machine

/-! ### Inputs that come in between (R143) -/

theorem runInputs_cons_next {e : Input} {es : List Input} {s t : State}
    (h : runInputs (e :: es) s = .next t) : ∃ u, takeInput e s = .next u ∧ runInputs es u = .next t := by
  simp only [runInputs] at h
  split at h
  case h_1 u hu => exact ⟨u, hu, h⟩
  all_goals cases h

theorem quiet_next {e : Input} (he : isQuiet e = true) (s : State) :
    ∃ t, takeInput e s = .next t ∧ t.view = s.view ∧ t.args = s.args := by
  cases e with
  | host op =>
    cases op with
    | waitDone => exact ⟨_, rfl, rfl, rfl⟩
    | wr | rd => cases he
  | linkReady up => exact ⟨_, rfl, rfl, rfl⟩
  | request | txAccept | settleExpire | rxByte | readTimeout | tErr | reset => cases he

/-- A run of dispatcher events does the same to the command with turns of WAITDONE and changes of the link level
in between, and the argument registers stay. -/
theorem run_with_quiet {es : List Input} {s s' t : State}
    (hes : ∀ e ∈ es.filter (fun e => !isQuiet e), isDispatcher e = true) (hview : s'.view = s.view)
    (h : runInputs (es.filter (fun e => !isQuiet e)) s = .next t) :
    ∃ t', runInputs es s' = .next t' ∧ t'.view = t.view ∧ t'.args = s'.args := by
  induction es generalizing s s' with
  | nil =>
    cases h
    exact ⟨s', rfl, hview, rfl⟩
  | cons e es ih =>
    by_cases he : isQuiet e = true
    · have hdrop : (e :: es).filter (fun e => !isQuiet e) = es.filter (fun e => !isQuiet e) :=
        List.filter_cons_of_neg (by simp [he])
      rw [hdrop] at hes h
      obtain ⟨u, hu, huview, huargs⟩ := quiet_next he s'
      obtain ⟨t', ht', htview, htargs⟩ := ih hes (huview.trans hview) h
      exact ⟨t', by rw [runInputs_cons hu, ht'], htview, htargs.trans huargs⟩
    · have hkeep : (e :: es).filter (fun e => !isQuiet e) = e :: es.filter (fun e => !isQuiet e) :=
        List.filter_cons_of_pos (by simp [he])
      rw [hkeep] at hes h
      obtain ⟨hdispatcher, hes⟩ := List.forall_mem_cons.mp hes
      obtain ⟨u, hu, hrest⟩ := runInputs_cons_next h
      obtain ⟨t', ht', htview, htargs⟩ := ih (s' := u.withOutside s') (s := u) hes rfl hrest
      exact ⟨t', by rw [runInputs_cons (takeInput_of_view_eq hdispatcher hview hu), ht'], htview, htargs⟩

/-! ### The request and the reply (R134 to R138) -/

/-- `s` with its request sent, in the settle delay, `n` bytes captured in `resp`. -/
def settling (s : State) (resp : Vector Byte 250) (n : Nat) : State :=
  { s with
    sent := s.sent ++ s.txf.toList
    txIdx := 7
    phase := .settle
    settleTimer := .running (Config.settleDelay s.curOp)
    resp := resp
    rxCount := n }

/-- The same in the read. -/
def reading (s : State) (resp : Vector Byte 250) (n : Nat) : State :=
  { settling s resp n with
    phase := .read
    settleTimer := .stopped
    readTimer := .running Config.readTimeout }

/-- Bytes that arrive in the capture window and do not complete the reply are stored in their order. -/
theorem run_rxBytes (bs : List Byte) {s : State} (hexp : s.expLen ≤ 250)
    (hroom : s.rxCount + bs.length ≤ s.expLen)
    (hphase : s.phase = .settle ∨ s.phase = .read ∧ s.rxCount + bs.length < s.expLen) :
    ∃ resp, runInputs (bs.map .rxByte) s =
        .next { s with resp := resp, rxCount := s.rxCount + bs.length } ∧
      resp.toList.take (s.rxCount + bs.length) = captured s ++ bs := by
  induction bs generalizing s with
  | nil => exact ⟨s.resp, rfl, (List.append_nil _).symm⟩
  | cons b bs ih =>
    rw [List.length_cons] at hroom hphase
    have hwindow : captures s = true :=
      captures_iff.mpr ⟨hphase.imp id And.left, by omega⟩
    have hopen : ¬ (s.phase = .read ∧ s.rxCount + 1 = s.expLen) := by
      rintro ⟨hread, hfull⟩
      rcases hphase with hsettle | ⟨-, hless⟩
      · simp [hread] at hsettle
      · omega
    have hk : s.rxCount < 250 := by omega
    have hcount : s.rxCount + (bs.length + 1) = s.rxCount + 1 + bs.length := by omega
    rw [hcount] at hroom hphase
    obtain ⟨resp, hrun, hresp⟩ := ih (s := storeByte b s hk) hexp hroom hphase
    refine ⟨resp, ?_, ?_⟩
    · rw [List.map_cons, runInputs_cons (e := .rxByte b) (rxByte_store b hwindow hk hopen), hrun,
        List.length_cons, hcount]
      rfl
    · rw [List.length_cons, hcount]
      rw [captured_storeByte, List.append_assoc] at hresp
      exact hresp

section
variable {s : State} {c : Command} (htx : s.phase = .tx) (hidx : s.txIdx = 0) (hrx : s.rxCount = 0)
  (hexp : s.expLen = respLen c)
include htx hidx hrx hexp

/-- The request goes out and the first bytes of the reply arrive in the settle delay. -/
theorem run_settling {early : List Byte} (hlen : early.length ≤ respLen c) :
    ∃ resp, runInputs (List.replicate 7 .txAccept ++ early.map .rxByte) s =
        .next (settling s resp early.length) ∧ resp.toList.take early.length = early := by
  have hle := respLen_le c
  obtain ⟨resp, hrun, hresp⟩ := run_rxBytes early (s := settling s s.resp s.rxCount)
    (hexp.trans_le hle) (by simp only [settling, hrx, hexp]; omega) (.inl rfl)
  have hcount : (settling s s.resp s.rxCount).rxCount + early.length = early.length := by
    simp only [settling, hrx, Nat.zero_add]
  have hnone : captured (settling s s.resp s.rxCount) = [] := by
    simp only [captured, settling, hrx, List.take_zero]
  rw [hcount] at hrun hresp
  rw [hnone, List.nil_append] at hresp
  exact ⟨resp, (runInputs_append (sevenAcceptsSendTheWholeFrame s htx hidx)).trans hrun, hresp⟩

/-- A reply that is not complete yet is in RESP, in the read. -/
theorem run_reading {early late : List Byte} (hlen : (early ++ late).length < respLen c) :
    ∃ resp, runInputs (replyCycle early late) s = .next (reading s resp (early ++ late).length) ∧
      resp.toList.take (early ++ late).length = early ++ late := by
  have hle := respLen_le c
  rw [List.length_append] at hlen ⊢
  obtain ⟨resp, hrun, hresp⟩ := run_settling htx hidx hrx hexp (early := early) (by omega)
  have hopen : runInputs [.settleExpire] (settling s resp early.length) =
      .next (reading s resp early.length) :=
    runInputs_cons (settleExpire_open rfl (by simp only [settling, hexp]; omega))
  obtain ⟨resp', hrun', hresp'⟩ := run_rxBytes late (s := reading s resp early.length)
    (hexp.trans_le hle) (by simp only [reading, settling, hexp]; omega)
    (.inr ⟨rfl, by simp only [reading, settling, hexp]; omega⟩)
  refine ⟨resp', ?_, ?_⟩
  · rw [replyCycle, runInputs_append ((runInputs_append hrun).trans hopen), hrun']
    rfl
  · exact hresp'.trans (congrArg (· ++ late) hresp)

end

/-! ### The end of a command -/

/-- The checks read ACK and the latches only. -/
theorem checked_congr {s q : State} (hack : q.ack = s.ack) (hunit : q.curUnit = s.curUnit)
    (haddr : q.curAddr = s.curAddr) (c : Command) (raw : List Byte) : checked c raw q = checked c raw s := by
  cases c <;>
    simp only [checked, extra, extraGotoPosition, extraSetConfigData, hack, hunit, haddr]

/-- `finish` in a state `q` that has the latches and the ACK of `s`. -/
theorem finish_of_latches {s q : State} {c : Command} (hop : q.curOp = opcodeOf c)
    (hexp : q.expLen = respLen c) (hack : q.ack = s.ack) (hunit : q.curUnit = s.curUnit)
    (haddr : q.curAddr = s.curAddr) (raw : List Byte) :
    finish raw q = .next (complete (checked c raw s).1 { q with ack := (checked c raw s).2 }) := by
  rw [finish_eq_checked hop hexp, checked_congr hack hunit haddr]

/-- `s` with its request sent, the reply in `resp` and the checks' answer given. -/
def answered (s : State) (c : Command) (raw : List Byte) (resp : Vector Byte 250) : State :=
  complete (checked c raw s).1
    { settling s resp raw.length with ack := (checked c raw s).2, readTimer := .stopped }

theorem replyCycle_concat (early late : List Byte) (b : Byte) :
    replyCycle early (late ++ [b]) = replyCycle early late ++ [.rxByte b] := by
  simp [replyCycle]

/-- A command whose reply is complete is answered with what the checks give: by the settle timer where the reply
is there already, by its last byte otherwise. -/
theorem run_replyCycle {s : State} {c : Command} {early late : List Byte} (htx : s.phase = .tx)
    (hidx : s.txIdx = 0) (hrx : s.rxCount = 0) (hop : s.curOp = opcodeOf c) (hexp : s.expLen = respLen c)
    (hlen : (early ++ late).length = respLen c) :
    ∃ resp, runInputs (replyCycle early late) s = .next (answered s c (early ++ late) resp) ∧
      resp.toList.take (respLen c) = early ++ late := by
  have hle := respLen_le c
  rcases late.eq_nil_or_concat' with rfl | ⟨late, b, rfl⟩
  · rw [List.append_nil] at hlen ⊢
    obtain ⟨resp, hrun, hresp⟩ := run_settling htx hidx hrx hexp hlen.le
    refine ⟨resp, ?_, hlen ▸ hresp⟩
    have hcaptured : captured (settling s resp early.length) = early := hresp
    rw [replyCycle, List.map_nil, List.append_nil, runInputs_append hrun]
    refine runInputs_cons (e := .settleExpire) ?_
    rw [takeInput, settleExpire_full rfl (hlen.trans hexp.symm), hcaptured]
    exact finish_of_latches (s := s) (q := settling s resp early.length) hop hexp rfl rfl rfl early
  · rw [← List.append_assoc, List.length_append, List.length_singleton] at hlen
    obtain ⟨resp, hrun, hresp⟩ := run_reading htx hidx hrx hexp (early := early) (late := late) (by omega)
    have hk : (early ++ late).length < 250 := by omega
    have hcaptured : captured (reading s resp (early ++ late).length) = early ++ late := hresp
    have hstored := captured_storeByte b (reading s resp (early ++ late).length) hk
    have hwindow : captures (reading s resp (early ++ late).length) = true :=
      captures_iff.mpr ⟨.inr rfl, by simp only [reading, settling, hexp]; omega⟩
    rw [hcaptured] at hstored
    refine ⟨resp.set (early ++ late).length b hk, ?_, ?_⟩
    · rw [replyCycle_concat, runInputs_append hrun]
      refine runInputs_cons (e := .rxByte b) ?_
      rw [takeInput, rxByte_fill b hwindow hk rfl (hlen.trans hexp.symm), hcaptured]
      refine (finish_of_latches (s := s) (q := storeByte b (reading s resp (early ++ late).length) hk)
        hop hexp rfl rfl rfl _).trans ?_
      rw [← List.append_assoc, answered, List.length_append (as := early ++ late)]
      rfl
    · rw [← hlen]
      exact hstored.trans (by simp)

/-- The rules' verdict on a reply of full length is what the checks give against the instruction's latches. -/
theorem checked_eq_verdict {i : Instr} {raw : List Byte} {q : State} {r : ArgRegs}
    (hlen : raw.length = respLen i.command) (hunit : q.curUnit = (argsAfter i r).unit)
    (haddr : q.curAddr = (argsAfter i r).addr) : (checked i.command raw q).1 = verdict i raw := by
  have hown : (extra i.command raw q).1 = match i with
      | .goto u _ => if raw.getD 1 0 ≠ u then .unitMismatch else .ok
      | .setcfg a _ _ _ _ =>
        if raw.getD 1 0 ≠ a then .addressMismatch else if raw.getD 2 0 = 0 then .ok else .deviceNack
      | _ => .ok := by
    cases i with
    | goto => simp only [extra, Instr.command, extraGotoPosition, hunit, argsAfter, apply_ite Prod.fst]
    | setcfg => simp only [extra, Instr.command, extraSetConfigData, haddr, argsAfter, apply_ite Prod.fst]
    | init | gstat | gpos | stop | getcfg => rfl
  rw [checked, if_neg (not_not.mpr hlen)]
  simp only [apply_ite Prod.fst, hown]
  cases i <;> rfl

/-- ACK is the ack byte of a SetConfigData reply whose address matched (R31, R181). -/
theorem checked_ack {c : Command} {raw : List Byte} {q : State} (hack : q.ack = 0) :
    (checked c raw q).2 =
      if c = .setConfigData ∧ (checked c raw q).1 ∈ [.ok, .deviceNack] then raw.getD 2 0 else 0 := by
  have hown : (extra c raw q).2 =
      if c = .setConfigData ∧ (extra c raw q).1 ∈ [.ok, .deviceNack] then raw.getD 2 0 else 0 := by
    by_cases hc : c = .setConfigData
    · subst hc
      simp only [extra, extraSetConfigData]
      split_ifs <;> simp_all
    · rw [extra_ack hc, hack, if_neg fun h => hc h.1]
  by_cases hlen : raw.length = respLen c
  · by_cases hsum : csum (raw.take (respLen c - 1)) = raw.getD (respLen c - 1) 0
    · by_cases hfirst : raw.getD 0 0 = opcodeOf c
      · rwa [checked, if_neg (not_not.mpr hlen), if_neg (not_not.mpr hsum), if_neg (not_not.mpr hfirst)]
      · rw [checked, if_neg (not_not.mpr hlen), if_neg (not_not.mpr hsum), if_pos hfirst]
        simp [hack]
    · rw [checked, if_neg (not_not.mpr hlen), if_pos hsum]
      simp [hack]
  · rw [checked, if_pos hlen]
    simp [hack]

/-! ### The obligations -/

/-- The state after an instruction that an idle block with the link up accepts (R132). -/
def accepting (i : Instr) (s : State) : State :=
  accepted s (argsAfter i s.args) (requestOf i.command (argsAfter i s.args)) (respLen i.command)

theorem exec_accepting {i : Instr} {s : State} (hidle : s.phase = .idle) (hlink : s.link = true) :
    exec i s = .next (accepting i s) :=
  exec_sends hidle hlink (requestOf_argsAfter i s.args).symm

theorem replyCycle_isDispatcher {early late : List Byte} {e : Input} (he : e ∈ replyCycle early late) :
    isDispatcher e = true := by
  simp only [replyCycle, List.mem_append, List.mem_replicate, List.mem_map, List.mem_singleton] at he
  rcases he with ((⟨-, rfl⟩ | ⟨b, -, rfl⟩) | rfl) | ⟨b, -, rfl⟩ <;> rfl

/-- Settles O56: the command's own events lead to the checks' answer (`run_replyCycle`), the quiet inputs in
between change nothing of the command (`run_with_quiet`), and the latches hold the instruction's operands. -/
theorem replyInWindowGivesItsVerdict : Obligations.ReplyInWindowGivesItsVerdict := by
  intro i s early late es hidle hlink hlen hes
  obtain ⟨resp, hrun, hresp⟩ := run_replyCycle (early := early) (late := late) (c := i.command)
    (s := accepting i s) rfl rfl rfl (argsAfter_opcode i s.args) rfl hlen
  rw [← hes] at hrun
  obtain ⟨t, ht, hview, hargs⟩ :=
    run_with_quiet (fun e he => replyCycle_isDispatcher (hes ▸ he)) rfl hrun
  have hverdict : (checked i.command (early ++ late) (accepting i s)).1 = verdict i (early ++ late) :=
    checked_eq_verdict (r := s.args) hlen rfl rfl
  have hack := checked_ack (c := i.command) (raw := early ++ late) (q := accepting i s) rfl
  have hresult : t.result = (checked i.command (early ++ late) (accepting i s)).1 :=
    congrArg CommandView.result hview
  have hresp' : t.resp = resp := congrArg CommandView.resp hview
  have hcount : t.rxCount = (early ++ late).length := congrArg CommandView.rxCount hview
  refine ⟨_, t, exec_accepting hidle hlink, ht, congrArg CommandView.phase hview,
    congrArg CommandView.done hview, hresult.trans hverdict, ?_, congrArg CommandView.expLen hview, ?_, ?_, ?_,
    hargs⟩
  · rw [hresult]
    exact (congrArg CommandView.ack hview).trans hack
  · exact (hcount.trans hlen).trans (congrArg CommandView.expLen hview).symm
  · rw [hcount, hlen, hresp', hresp]
  · rw [← requestOf_argsAfter i s.args]
    exact congrArg CommandView.sent hview

/-- Settles O57: the read timer finds the short reply in RESP (`run_reading`). -/
theorem shortReplyTimesOut : Obligations.ShortReplyTimesOut := by
  intro i s early late hidle hlink hlen
  obtain ⟨resp, hrun, hresp⟩ := run_reading (early := early) (late := late) (c := i.command)
    (s := accepting i s) rfl rfl rfl rfl hlen
  refine ⟨_, _, exec_accepting hidle hlink,
    (runInputs_append hrun).trans (runInputs_cons (readTimeout_short rfl hlen)), rfl, rfl, rfl, rfl, rfl, rfl,
    hresp, ?_⟩
  rw [← requestOf_argsAfter i s.args]
  rfl

end Sys2Proof.Machine
end

section
/-! PROOFS. Progress (41_dispatcher R148): what is left of a command shrinks with every event of progress, and a fair
environment brings every command to its end. -/

namespace Sys2Proof.Machine

/-! ### What is left of a command -/

theorem remaining_of_view {s t : State} (hview : t.view = s.view) : remaining t = remaining s := by
  rw [eq_withOutside_of_view hview]
  rfl

theorem remaining_pos {s : State} (h : Inv s) (hbusy : s.phase ≠ .idle) : 0 < remaining s := by
  have htx := h.tx_le
  unfold remaining
  cases hphase : s.phase with
  | idle => exact absurd hphase hbusy
  | tx | settle | read => simp only; omega

theorem remaining_le (s : State) : remaining s ≤ 9 := by
  unfold remaining
  cases s.phase <;> simp only <;> omega

/-- While the command is in flight its rest does not grow, and an event of progress takes one off. -/
theorem Move.remaining_le {e : Input} {s t : State} (hmove : Move e s t) (hs : s.phase ≠ .idle)
    (ht : t.phase ≠ .idle) : remaining t + (progresses e).toNat ≤ remaining s := by
  cases hmove with
  | untouched hview he =>
    rw [remaining_of_view hview, he.resolve_left hs]
    exact Nat.le_refl _
  | illegal _ hidle | accept _ _ hidle | linkDown _ _ hidle => exact absurd hidle hs
  | send htx hi =>
    simp only [remaining, htx, progresses, Bool.toNat_true]
    omega
  | sendLast htx h6 => simp [remaining, htx, h6, progresses]
  | openRead hsettle hroom => simp [remaining, hsettle, progresses]
  | store hwindow hk hopen => exact Nat.le_refl _
  | checkFull _ _ hcheck | fill _ _ _ hcheck =>
    obtain ⟨code, ack, rfl⟩ := finish_next hcheck
    exact absurd rfl ht
  | timeout | fail | reset => exact absurd rfl ht

/-- Without an event of progress a command in flight stays in its phase or is reset. -/
theorem Move.phase_eq {e : Input} {s t : State} (hmove : Move e s t) (hs : s.phase ≠ .idle)
    (ht : t.phase ≠ .idle) (he : progresses e = false) : t.phase = s.phase := by
  cases hmove with
  | untouched hview => exact congrArg CommandView.phase hview
  | illegal _ hidle | accept _ _ hidle | linkDown _ _ hidle => exact absurd hidle hs
  | store => rfl
  | send | sendLast | openRead | checkFull | timeout | fail => cases he
  | fill _ _ _ hcheck =>
    obtain ⟨code, ack, rfl⟩ := finish_next hcheck
    exact absurd rfl ht
  | reset => exact absurd rfl ht

/-- An event of progress brings the command nearer its end. -/
theorem remaining_lt {e : Input} {s t : State} (h : Inv s) (hbusy : s.phase ≠ .idle)
    (he : progresses e = true) (hnext : takeInput e s = .next t) : remaining t < remaining s := by
  by_cases ht : t.phase = .idle
  · have hzero : remaining t = 0 := by simp [remaining, ht]
    have hpos := remaining_pos h hbusy
    omega
  · have hle := (takeInput_move hnext).remaining_le hbusy ht
    rw [he] at hle
    exact hle

/-! ### The event of progress of each phase is enabled -/

theorem txAccept_enabled {s : State} (h : Inv s) (htx : s.phase = .tx) : ∃ t, txAccept s = .next t := by
  obtain ⟨hi, -⟩ := h.sending htx
  by_cases h6 : s.txIdx = 6
  · exact ⟨_, txAccept_last htx hi h6⟩
  · exact ⟨_, txAccept_send htx hi h6⟩

theorem settleExpire_enabled {s : State} (h : Inv s) (hsettle : s.phase = .settle) :
    ∃ t, settleExpire s = .next t := by
  have hbusy : s.phase ≠ .idle := by simp [hsettle]
  by_cases hfull : s.rxCount = s.expLen
  · obtain ⟨c, hc, -⟩ := h.legal hbusy
    have hpos := h.expLen_pos hbusy
    rw [settleExpire_full hsettle hfull]
    exact finish_completes hc (by omega)
  · exact ⟨_, settleExpire_open hsettle hfull⟩

theorem readTimeout_enabled {s : State} (h : Inv s) (hread : s.phase = .read) :
    ∃ t, readTimeout s = .next t :=
  ⟨_, readTimeout_short hread (h.room hread)⟩

/-! ### Finite runs -/

/-- A run with as many events of progress as are left of the command passes through IDLE. -/
theorem run_reaches_idle {es : List Input} {s t : State} (h : Inv s) (hrun : runInputs es s = .next t)
    (hcount : remaining s ≤ es.countP progresses) :
    ∃ first rest u, es = first ++ rest ∧ runInputs first s = .next u ∧ u.phase = .idle := by
  induction es generalizing s with
  | nil =>
    refine ⟨[], [], s, rfl, rfl, ?_⟩
    by_contra hbusy
    have hpos := remaining_pos h hbusy
    rw [List.countP_nil] at hcount
    omega
  | cons e es ih =>
    by_cases hidle : s.phase = .idle
    · exact ⟨[], e :: es, s, rfl, rfl, hidle⟩
    obtain ⟨u, hu, hrest⟩ := runInputs_cons_next hrun
    by_cases huidle : u.phase = .idle
    · exact ⟨[e], es, u, rfl, runInputs_cons hu, huidle⟩
    have hmove := takeInput_move hu
    have hle := hmove.remaining_le hidle huidle
    have hcons : (e :: es).countP progresses = es.countP progresses + (progresses e).toNat := by
      cases he : progresses e <;> simp [he]
    obtain ⟨first, rest, v, rfl, hfirst, hv⟩ := ih (hmove.inv h) hrest (by omega)
    exact ⟨e :: first, rest, v, rfl, (runInputs_cons hu).trans hfirst, hv⟩

/-! ### Infinite runs -/

section
variable {state : Nat → State} {input : Nat → Input} (hrun : IsRun state input)
include hrun

theorem run_inv (h : Inv (state 0)) (n : Nat) : Inv (state n) := by
  induction n with
  | zero => exact h
  | succ n ih => exact (takeInput_move (hrun n)).inv ih

/-- In flight from `n` on, what is left does not grow. -/
theorem run_remaining_le {n m : Nat} (hbusy : ∀ m, n ≤ m → (state m).phase ≠ .idle) (hnm : n ≤ m) :
    remaining (state m) ≤ remaining (state n) := by
  induction m, hnm using Nat.le_induction with
  | base => exact Nat.le_refl _
  | succ m hnm ih =>
    have hle := (takeInput_move (hrun m)).remaining_le (hbusy m hnm) (hbusy (m + 1) (by omega))
    omega

/-- In flight from `n` on without progress, the phase stays. -/
theorem run_phase_eq {n m : Nat} (hbusy : ∀ m, n ≤ m → (state m).phase ≠ .idle)
    (hstuck : ∀ m, n ≤ m → progresses (input m) = false) (hnm : n ≤ m) :
    (state m).phase = (state n).phase := by
  induction m, hnm using Nat.le_induction with
  | base => rfl
  | succ m hnm ih =>
    exact ((takeInput_move (hrun m)).phase_eq (hbusy m hnm) (hbusy (m + 1) (by omega)) (hstuck m hnm)).trans ih

/-- Under FAIR_ENV a command in flight does not wait for ever: the event its phase waits for comes. -/
theorem run_progresses (h : Inv (state 0)) (hfair : FairEnv state input) {n : Nat}
    (hbusy : ∀ m, n ≤ m → (state m).phase ≠ .idle) :
    ∃ m, n ≤ m ∧ progresses (input m) = true := by
  by_contra hnone
  have hstuck : ∀ m, n ≤ m → progresses (input m) = false := fun m hnm =>
    Bool.eq_false_iff.mpr fun he => hnone ⟨m, hnm, he⟩
  have hphase : ∀ m, n ≤ m → (state m).phase = (state n).phase := fun m => run_phase_eq hrun hbusy hstuck
  cases hn : (state n).phase with
  | idle => exact hbusy n (Nat.le_refl n) hn
  | tx =>
    obtain ⟨m, hnm, he | he⟩ := hfair.sending n fun m hnm => (hphase m hnm).trans hn
    · exact hnone ⟨m, hnm, by rw [he]; rfl⟩
    · exact hnone ⟨m, hnm, by rw [he]; rfl⟩
  | settle =>
    obtain ⟨m, hnm, he⟩ := hfair.settling n fun m hnm => (hphase m hnm).trans hn
    exact hnone ⟨m, hnm, by rw [he]; rfl⟩
  | read =>
    obtain ⟨m, hnm, he⟩ := hfair.reading n fun m hnm =>
      have hread := (hphase m hnm).trans hn
      ⟨hread, (run_inv hrun h m).room hread⟩
    exact hnone ⟨m, hnm, by rw [he]; rfl⟩

/-- Under FAIR_ENV the block comes back to IDLE from every place, by induction on what is left. -/
theorem run_returns_to_idle (h : Inv (state 0)) (hfair : FairEnv state input) (k : Nat) :
    ∀ n, remaining (state n) ≤ k → ∃ m, n ≤ m ∧ (state m).phase = .idle := by
  induction k with
  | zero =>
    intro n hk
    refine ⟨n, Nat.le_refl n, ?_⟩
    by_contra hbusy
    have hpos := remaining_pos (run_inv hrun h n) hbusy
    omega
  | succ k ih =>
    intro n hk
    by_contra hnone
    have hbusy : ∀ m, n ≤ m → (state m).phase ≠ .idle := fun m hnm hidle => hnone ⟨m, hnm, hidle⟩
    obtain ⟨m, hnm, he⟩ := run_progresses hrun h hfair hbusy
    have hlt := remaining_lt (run_inv hrun h m) (hbusy m hnm) he (hrun m)
    have hle := run_remaining_le hrun hbusy hnm
    obtain ⟨p, hp, hidle⟩ := ih (m + 1) (by omega)
    exact hbusy p (by omega) hidle

end

/-- A command just accepted, with nothing but the link level reported from then on. -/
def waitingInTx : State := accepting (.init 1) State.reset

theorem inv_waitingInTx : Inv waitingInTx := by
  have hstart : takeInput (.request (encode (.init 1))) State.reset = .next waitingInTx := by
    have hdecode := encodedInstructionDecodesBack (.init 1) rfl
    simp only [takeInput, hdecode]
    exact exec_accepting rfl rfl
  exact (takeInput_move hstart).inv inv_reset

/-- Settles O58: what is left of a command shrinks with progress (`remaining_lt`), which FAIR_ENV brings about
(`run_progresses`); a run of link reports alone stays in TX. -/
theorem fairEnvironmentEndsEveryCommand : Obligations.FairEnvironmentEndsEveryCommand := by
  refine ⟨fun s h => ⟨fun htx => ?_, fun hsettle => ?_, fun hread => ?_⟩, ?_, ?_, ?_⟩
  · obtain ⟨t, ht⟩ := txAccept_enabled h htx
    exact ⟨t, ht, remaining_lt h (by simp [htx]) (e := .txAccept) rfl ht⟩
  · obtain ⟨t, ht⟩ := settleExpire_enabled h hsettle
    exact ⟨t, ht, remaining_lt h (by simp [hsettle]) (e := .settleExpire) rfl ht⟩
  · obtain ⟨t, ht⟩ := readTimeout_enabled h hread
    exact ⟨t, ht, remaining_lt h (by simp [hread]) (e := .readTimeout) rfl ht⟩
  · exact fun es s t h hrun hcount => run_reaches_idle h hrun ((remaining_le s).trans hcount)
  · exact fun state input h hrun hfair n => run_returns_to_idle hrun h hfair _ n (Nat.le_refl _)
  · exact ⟨fun _ => waitingInTx, fun _ => .linkReady true, inv_waitingInTx, fun _ => rfl, fun _ => rfl⟩

end Sys2Proof.Machine
end
